-- ==== Sys2Proof/Word.lean ====
section
/-! DEFINITION. The two word sizes of the core: bytes and 16-bit words (00_scope.md R7). -/

namespace Sys2Proof

/-- An 8-bit register or memory byte. -/
abbrev Byte := BitVec 8

/-- A 16-bit value: SP, PC, a pair, an address. -/
abbrev Word := BitVec 16

end Sys2Proof
end

