-- ==== Sys2Proof/Machine/Bits.lean ====
section
/-! DEFINITION. Bit fields, sign extension and byte order (00_scope.md R9), shared by the decoder and the machine. -/

namespace Sys2Proof

/-- `concat(hi, lo)`: `hi` above `lo` (R9). -/
def concat (hi lo : Byte) : Word := hi ++ lo

/-- `v[15:8]`. -/
def hiByte (v : Word) : Byte := v.extractLsb' 8 8

/-- `v[7:0]`. -/
def loByte (v : Word) : Byte := v.extractLsb' 0 8

/-- `sext_16(e)` (R9). -/
def sext16 (e : Byte) : Word := e.signExtend 16

/-- `zext_16(n)` (R9). -/
def zext16 (n : Byte) : Word := n.setWidth 16

/-- A byte with bit `k` set to `v` and every other bit as it was. -/
def withBit (f : Byte) (k : Nat) (v : Bool) : Byte :=
  if v then f ||| (1#8 <<< k) else f &&& ~~~(1#8 <<< k)

/-- The first three bytes of the number `w` cut to its `nbits` low bits, lowest byte first: the longest instruction
has three bytes (30_encoding.md R131). -/
def tableBytes (nbits w : Nat) : List Byte :=
  let w := w % 2 ^ nbits
  [BitVec.ofNat 8 w, BitVec.ofNat 8 (w / 256), BitVec.ofNat 8 (w / 65536)]

end Sys2Proof
end

