-- ==== Sys2Proof/Machine/State.lean ====
section
/-! DEFINITION. The state of the core (10_state.md), the reasons a step can stop, and the state right after reset
(70_reset_and_hazards.md R600). State is plain data. -/

namespace Sys2Proof.Machine

/-- The four modes of the display timer (10_state.md R42). -/
inductive Mode where
  | oamScan | pixelTransfer | hblank | vblank
  deriving DecidableEq, Repr

/-- The five interrupt sources, highest priority first (60_exceptions.md R510). -/
inductive Source where
  | vblank | displayStatus | timer | serial | joypad
  deriving DecidableEq, Repr

/-- The reasons of the fatal outcome (60_exceptions.md R501). -/
inductive FatalReason where
  /-- A byte write of `value` to the read-only address `addr` (R86). -/
  | romWrite (addr : Word) (value : Byte)
  /-- An address no region serves. Named by R501 and never raised: routing is total (20_memory.md R72). -/
  | routingGap (addr : Word)
  deriving DecidableEq, Repr

/-- An event of the log of unsupported opcodes: the opcode's address and the opcode (46_system.md R404). -/
structure UnsupportedEvent where
  pc : Word
  opcode : Byte
  deriving DecidableEq, Repr

/-- The cells of the bus's arrays (10_state.md R49), strictly rising by address, without the cells that hold the value
an unlisted cell reads as (`Memory.wf`). -/
abbrev Memory := List Host.Cell

/-- Every piece of state of 10_state.md, under the spec's name where Lean admits it. -/
structure State where
  /-- A (R30). -/
  a : Byte
  /-- The flags register: Z, N, H, C in bits 7..4, bits 3..0 always 0 (R34). -/
  f : Byte
  /-- B (R30). -/
  b : Byte
  /-- C (R30). -/
  c : Byte
  /-- D (R30). -/
  d : Byte
  /-- E (R30). -/
  e : Byte
  /-- H (R30). -/
  h : Byte
  /-- L (R30). -/
  l : Byte
  /-- The stack pointer (R36). -/
  sp : Word
  /-- The program counter (R37). -/
  pc : Word
  /-- The master enable (R39). -/
  ime : Bool
  /-- IE, the enable mask (R40). -/
  ie : Byte
  /-- IF, the pending mask (R41). -/
  ifl : Byte
  /-- The display mode (R42). -/
  mode : Mode
  /-- The scanline counter (R43). -/
  line : Nat
  /-- The tick accumulator of the display timer (R44). -/
  acc : Nat
  /-- The tick counter (R45). -/
  ticks : Nat
  /-- The value of `ticks` at the last timer phase (R45). -/
  timerSeen : Nat
  /-- LCDC, the display-control byte (R46). -/
  lcdc : Byte
  /-- SCY, scroll Y (R46). -/
  scy : Byte
  /-- SCX, scroll X (R46). -/
  scx : Byte
  /-- DMA, the last value written to the DMA trigger (R46). -/
  dma : Byte
  /-- The stopped latch (R47). -/
  stopped : Bool
  /-- The reason of the fatal condition that aborted the session (R48). -/
  fatal : Option FatalReason
  /-- The sticky mark of the unsupported outcome (R48). -/
  unsupportedSeen : Bool
  /-- The log of unsupported events, oldest first (R48). -/
  log : List UnsupportedEvent
  /-- ROM, VRAM, external RAM, work RAM, OAM, the I/O block and HRAM (R49). -/
  mem : Memory
  deriving DecidableEq, Repr

/-- Why the machine stops. -/
inductive Fault where
  /-- The fatal outcome (60_exceptions.md R500): raised by a byte write to ROM, from any store, push or interrupt
  dispatch. `atFault` is the state at the fault: `fatal` set to the reason, every write made before it kept (R502).
  Safe: the spec aborts the session here. -/
  | fatal (reason : FatalReason) (atFault : State)
  /-- A step of a session that a fatal condition has aborted: no such step exists (30_encoding.md R125). Raised by
  `step` alone. Safe. -/
  | noStep (reason : FatalReason)
  deriving DecidableEq, Repr

/-- Why an instruction has no meaning. -/
inductive Refusal where
  /-- The instruction is not modelled. Raised by no arm of `exec`. Safe. -/
  | notModelled (mnemonic : String)
  deriving DecidableEq, Repr

/-- The state right after construction from a zeroed program image (70_reset_and_hazards.md R600, R603; the image is
log entry 4). `State.construct` takes any image. -/
def State.reset : State where
  a := 0x01
  f := 0xB0
  b := 0x00
  c := 0x13
  d := 0x00
  e := 0xD8
  h := 0x01
  l := 0x4D
  sp := 0xFFFE
  pc := 0x0100
  ime := true
  ie := 0x00
  ifl := 0x00
  mode := .hblank
  line := 0
  acc := 0
  ticks := 0
  timerSeen := 0
  lcdc := 0x00
  scy := 0x00
  scx := 0x00
  dma := 0x00
  stopped := false
  fatal := none
  unsupportedSeen := false
  log := []
  mem := []

end Sys2Proof.Machine
end

