-- ==== Sys2Proof/Syntax.lean ====
section
/-! DEFINITION. The instruction set: one constructor of `Instr` for each of the 256 rows of opcode_table.json
(30_encoding.md R130, R137). A constructor is spelled after its row: operands are joined by `_`, and `atX` stands for
the operand `(X)`, the byte at address X (30_encoding.md R142). Below `Instr` stand the families of the map in prose
(R138): functions that give the constructor of a family from its register, pair, condition or ALU code. -/

namespace Sys2Proof

/-- The seven general registers, in the order of their 3-bit codes 0..5 and 7 (R132). -/
inductive Reg where
  | b | c | d | e | h | l | a
  deriving DecidableEq, Repr

/-- The pairs of `rp[p]` (R133). -/
inductive Pair where
  | bc | de | hl | sp
  deriving DecidableEq, Repr

/-- The pairs of `rp2[p]`, pushed and popped (R133). -/
inductive StackPair where
  | bc | de | hl | af
  deriving DecidableEq, Repr

/-- The condition codes (R135). -/
inductive Cond where
  | nz | z | nc | c
  deriving DecidableEq, Repr

/-- The ALU operations, in the order of their 3-bit codes (R134). -/
inductive AluOp where
  | add | adc | sub | sbc | and | xor | or | cp
  deriving DecidableEq, Repr

/-- The source operand of an 8-bit ALU instruction (42_alu8.md R271). -/
inductive AluSrc where
  | reg (r : Reg)
  | atHL
  | d8 (n : Byte)
  deriving DecidableEq, Repr

/-- One constructor for each opcode byte (R137): first the rows with an immediate, then the rows without, each in the
order of the opcode map. The operand is the immediate that follows the opcode byte: `n` for d8 and a8, `e` for e8, `v`
for d16, `a` for a16 (R131). -/
inductive Instr where
  | ld_BC_d16 (v : Word)
  | ld_B_d8 (n : Byte)
  | ld_atA16_SP (a : Word)
  | ld_C_d8 (n : Byte)
  | stop (n : Byte)
  | ld_DE_d16 (v : Word)
  | ld_D_d8 (n : Byte)
  | jr_e8 (e : Byte)
  | ld_E_d8 (n : Byte)
  | jr_NZ_e8 (e : Byte)
  | ld_HL_d16 (v : Word)
  | ld_H_d8 (n : Byte)
  | jr_Z_e8 (e : Byte)
  | ld_L_d8 (n : Byte)
  | jr_NC_e8 (e : Byte)
  | ld_SP_d16 (v : Word)
  | ld_atHL_d8 (n : Byte)
  | jr_C_e8 (e : Byte)
  | ld_A_d8 (n : Byte)
  | jp_NZ_a16 (a : Word)
  | jp_a16 (a : Word)
  | call_NZ_a16 (a : Word)
  | add_A_d8 (n : Byte)
  | jp_Z_a16 (a : Word)
  | call_Z_a16 (a : Word)
  | call_a16 (a : Word)
  | adc_A_d8 (n : Byte)
  | jp_NC_a16 (a : Word)
  | call_NC_a16 (a : Word)
  | sub_d8 (n : Byte)
  | jp_C_a16 (a : Word)
  | call_C_a16 (a : Word)
  | sbc_A_d8 (n : Byte)
  | ldh_atA8_A (n : Byte)
  | and_d8 (n : Byte)
  | add_SP_e8 (e : Byte)
  | ld_atA16_A (a : Word)
  | xor_d8 (n : Byte)
  | ldh_A_atA8 (n : Byte)
  | or_d8 (n : Byte)
  | ld_HL_SPe8 (e : Byte)
  | ld_A_atA16 (a : Word)
  | cp_d8 (n : Byte)
  | nop
  | ld_atBC_A
  | inc_BC
  | inc_B
  | dec_B
  | rlca
  | add_HL_BC
  | ld_A_atBC
  | dec_BC
  | inc_C
  | dec_C
  | rrca
  | ld_atDE_A
  | inc_DE
  | inc_D
  | dec_D
  | rla
  | add_HL_DE
  | ld_A_atDE
  | dec_DE
  | inc_E
  | dec_E
  | rra
  | ld_atHLinc_A
  | inc_HL
  | inc_H
  | dec_H
  | daa
  | add_HL_HL
  | ld_A_atHLinc
  | dec_HL
  | inc_L
  | dec_L
  | cpl
  | ld_atHLdec_A
  | inc_SP
  | inc_atHL
  | dec_atHL
  | scf
  | add_HL_SP
  | ld_A_atHLdec
  | dec_SP
  | inc_A
  | dec_A
  | ccf
  | ld_B_B
  | ld_B_C
  | ld_B_D
  | ld_B_E
  | ld_B_H
  | ld_B_L
  | ld_B_atHL
  | ld_B_A
  | ld_C_B
  | ld_C_C
  | ld_C_D
  | ld_C_E
  | ld_C_H
  | ld_C_L
  | ld_C_atHL
  | ld_C_A
  | ld_D_B
  | ld_D_C
  | ld_D_D
  | ld_D_E
  | ld_D_H
  | ld_D_L
  | ld_D_atHL
  | ld_D_A
  | ld_E_B
  | ld_E_C
  | ld_E_D
  | ld_E_E
  | ld_E_H
  | ld_E_L
  | ld_E_atHL
  | ld_E_A
  | ld_H_B
  | ld_H_C
  | ld_H_D
  | ld_H_E
  | ld_H_H
  | ld_H_L
  | ld_H_atHL
  | ld_H_A
  | ld_L_B
  | ld_L_C
  | ld_L_D
  | ld_L_E
  | ld_L_H
  | ld_L_L
  | ld_L_atHL
  | ld_L_A
  | ld_atHL_B
  | ld_atHL_C
  | ld_atHL_D
  | ld_atHL_E
  | ld_atHL_H
  | ld_atHL_L
  | halt
  | ld_atHL_A
  | ld_A_B
  | ld_A_C
  | ld_A_D
  | ld_A_E
  | ld_A_H
  | ld_A_L
  | ld_A_atHL
  | ld_A_A
  | add_A_B
  | add_A_C
  | add_A_D
  | add_A_E
  | add_A_H
  | add_A_L
  | add_A_atHL
  | add_A_A
  | adc_A_B
  | adc_A_C
  | adc_A_D
  | adc_A_E
  | adc_A_H
  | adc_A_L
  | adc_A_atHL
  | adc_A_A
  | sub_B
  | sub_C
  | sub_D
  | sub_E
  | sub_H
  | sub_L
  | sub_atHL
  | sub_A
  | sbc_A_B
  | sbc_A_C
  | sbc_A_D
  | sbc_A_E
  | sbc_A_H
  | sbc_A_L
  | sbc_A_atHL
  | sbc_A_A
  | and_B
  | and_C
  | and_D
  | and_E
  | and_H
  | and_L
  | and_atHL
  | and_A
  | xor_B
  | xor_C
  | xor_D
  | xor_E
  | xor_H
  | xor_L
  | xor_atHL
  | xor_A
  | or_B
  | or_C
  | or_D
  | or_E
  | or_H
  | or_L
  | or_atHL
  | or_A
  | cp_B
  | cp_C
  | cp_D
  | cp_E
  | cp_H
  | cp_L
  | cp_atHL
  | cp_A
  | ret_NZ
  | pop_BC
  | push_BC
  | rst_00
  | ret_Z
  | ret
  | prefix_CB
  | rst_08
  | ret_NC
  | pop_DE
  | unsupported_D3
  | push_DE
  | rst_10
  | ret_C
  | reti
  | unsupported_DB
  | unsupported_DD
  | rst_18
  | pop_HL
  | ld_atC_A
  | unsupported_E3
  | unsupported_E4
  | push_HL
  | rst_20
  | jp_HL
  | unsupported_EB
  | unsupported_EC
  | unsupported_ED
  | rst_28
  | pop_AF
  | ld_A_atC
  | di
  | unsupported_F4
  | push_AF
  | rst_30
  | ld_SP_HL
  | ei
  | unsupported_FC
  | unsupported_FD
  | rst_38
  deriving DecidableEq, Repr

/-- LD r,r': opcode bytes 0x40..0x7F with both codes a register (40_load8.md R200). -/
def Instr.ldReg (dst src : Reg) : Instr :=
  match dst, src with
  | .b, .b => .ld_B_B | .b, .c => .ld_B_C | .b, .d => .ld_B_D | .b, .e => .ld_B_E | .b, .h => .ld_B_H | .b, .l => .ld_B_L | .b, .a => .ld_B_A
  | .c, .b => .ld_C_B | .c, .c => .ld_C_C | .c, .d => .ld_C_D | .c, .e => .ld_C_E | .c, .h => .ld_C_H | .c, .l => .ld_C_L | .c, .a => .ld_C_A
  | .d, .b => .ld_D_B | .d, .c => .ld_D_C | .d, .d => .ld_D_D | .d, .e => .ld_D_E | .d, .h => .ld_D_H | .d, .l => .ld_D_L | .d, .a => .ld_D_A
  | .e, .b => .ld_E_B | .e, .c => .ld_E_C | .e, .d => .ld_E_D | .e, .e => .ld_E_E | .e, .h => .ld_E_H | .e, .l => .ld_E_L | .e, .a => .ld_E_A
  | .h, .b => .ld_H_B | .h, .c => .ld_H_C | .h, .d => .ld_H_D | .h, .e => .ld_H_E | .h, .h => .ld_H_H | .h, .l => .ld_H_L | .h, .a => .ld_H_A
  | .l, .b => .ld_L_B | .l, .c => .ld_L_C | .l, .d => .ld_L_D | .l, .e => .ld_L_E | .l, .h => .ld_L_H | .l, .l => .ld_L_L | .l, .a => .ld_L_A
  | .a, .b => .ld_A_B | .a, .c => .ld_A_C | .a, .d => .ld_A_D | .a, .e => .ld_A_E | .a, .h => .ld_A_H | .a, .l => .ld_A_L | .a, .a => .ld_A_A

/-- LD r,d8 (R201). -/
def Instr.ldImm (r : Reg) (n : Byte) : Instr :=
  match r with
  | .b => .ld_B_d8 n | .c => .ld_C_d8 n | .d => .ld_D_d8 n | .e => .ld_E_d8 n | .h => .ld_H_d8 n | .l => .ld_L_d8 n | .a => .ld_A_d8 n

/-- LD r,(HL) (R202). -/
def Instr.ldFromHL (r : Reg) : Instr :=
  match r with
  | .b => .ld_B_atHL | .c => .ld_C_atHL | .d => .ld_D_atHL | .e => .ld_E_atHL | .h => .ld_H_atHL | .l => .ld_L_atHL | .a => .ld_A_atHL

/-- LD (HL),r (R203). -/
def Instr.ldToHL (r : Reg) : Instr :=
  match r with
  | .b => .ld_atHL_B | .c => .ld_atHL_C | .d => .ld_atHL_D | .e => .ld_atHL_E | .h => .ld_atHL_H | .l => .ld_atHL_L | .a => .ld_atHL_A

/-- INC r (42_alu8.md R281). -/
def Instr.incReg (r : Reg) : Instr :=
  match r with
  | .b => .inc_B | .c => .inc_C | .d => .inc_D | .e => .inc_E | .h => .inc_H | .l => .inc_L | .a => .inc_A

/-- DEC r (R283). -/
def Instr.decReg (r : Reg) : Instr :=
  match r with
  | .b => .dec_B | .c => .dec_C | .d => .dec_D | .e => .dec_E | .h => .dec_H | .l => .dec_L | .a => .dec_A

/-- The 8-bit ALU instructions, `ALU[y] A, s` in the register, (HL) and d8 form (R134, R271). -/
def Instr.alu (op : AluOp) (src : AluSrc) : Instr :=
  match op, src with
  | .add, .reg .b => .add_A_B | .add, .reg .c => .add_A_C | .add, .reg .d => .add_A_D | .add, .reg .e => .add_A_E | .add, .reg .h => .add_A_H | .add, .reg .l => .add_A_L | .add, .reg .a => .add_A_A
  | .add, .atHL => .add_A_atHL | .add, .d8 n => .add_A_d8 n
  | .adc, .reg .b => .adc_A_B | .adc, .reg .c => .adc_A_C | .adc, .reg .d => .adc_A_D | .adc, .reg .e => .adc_A_E | .adc, .reg .h => .adc_A_H | .adc, .reg .l => .adc_A_L | .adc, .reg .a => .adc_A_A
  | .adc, .atHL => .adc_A_atHL | .adc, .d8 n => .adc_A_d8 n
  | .sub, .reg .b => .sub_B | .sub, .reg .c => .sub_C | .sub, .reg .d => .sub_D | .sub, .reg .e => .sub_E | .sub, .reg .h => .sub_H | .sub, .reg .l => .sub_L | .sub, .reg .a => .sub_A
  | .sub, .atHL => .sub_atHL | .sub, .d8 n => .sub_d8 n
  | .sbc, .reg .b => .sbc_A_B | .sbc, .reg .c => .sbc_A_C | .sbc, .reg .d => .sbc_A_D | .sbc, .reg .e => .sbc_A_E | .sbc, .reg .h => .sbc_A_H | .sbc, .reg .l => .sbc_A_L | .sbc, .reg .a => .sbc_A_A
  | .sbc, .atHL => .sbc_A_atHL | .sbc, .d8 n => .sbc_A_d8 n
  | .and, .reg .b => .and_B | .and, .reg .c => .and_C | .and, .reg .d => .and_D | .and, .reg .e => .and_E | .and, .reg .h => .and_H | .and, .reg .l => .and_L | .and, .reg .a => .and_A
  | .and, .atHL => .and_atHL | .and, .d8 n => .and_d8 n
  | .xor, .reg .b => .xor_B | .xor, .reg .c => .xor_C | .xor, .reg .d => .xor_D | .xor, .reg .e => .xor_E | .xor, .reg .h => .xor_H | .xor, .reg .l => .xor_L | .xor, .reg .a => .xor_A
  | .xor, .atHL => .xor_atHL | .xor, .d8 n => .xor_d8 n
  | .or, .reg .b => .or_B | .or, .reg .c => .or_C | .or, .reg .d => .or_D | .or, .reg .e => .or_E | .or, .reg .h => .or_H | .or, .reg .l => .or_L | .or, .reg .a => .or_A
  | .or, .atHL => .or_atHL | .or, .d8 n => .or_d8 n
  | .cp, .reg .b => .cp_B | .cp, .reg .c => .cp_C | .cp, .reg .d => .cp_D | .cp, .reg .e => .cp_E | .cp, .reg .h => .cp_H | .cp, .reg .l => .cp_L | .cp, .reg .a => .cp_A
  | .cp, .atHL => .cp_atHL | .cp, .d8 n => .cp_d8 n

/-- LD rr,d16 (41_load16.md R240). -/
def Instr.ldPair (p : Pair) (v : Word) : Instr :=
  match p with
  | .bc => .ld_BC_d16 v | .de => .ld_DE_d16 v | .hl => .ld_HL_d16 v | .sp => .ld_SP_d16 v

/-- INC rr (43_alu16.md R310). -/
def Instr.incPair (p : Pair) : Instr :=
  match p with
  | .bc => .inc_BC | .de => .inc_DE | .hl => .inc_HL | .sp => .inc_SP

/-- DEC rr (R311). -/
def Instr.decPair (p : Pair) : Instr :=
  match p with
  | .bc => .dec_BC | .de => .dec_DE | .hl => .dec_HL | .sp => .dec_SP

/-- ADD HL,rr (R312). -/
def Instr.addHL (p : Pair) : Instr :=
  match p with
  | .bc => .add_HL_BC | .de => .add_HL_DE | .hl => .add_HL_HL | .sp => .add_HL_SP

/-- PUSH rr (41_load16.md R250). -/
def Instr.push (p : StackPair) : Instr :=
  match p with
  | .bc => .push_BC | .de => .push_DE | .hl => .push_HL | .af => .push_AF

/-- POP rr (R251). -/
def Instr.pop (p : StackPair) : Instr :=
  match p with
  | .bc => .pop_BC | .de => .pop_DE | .hl => .pop_HL | .af => .pop_AF

/-- JR cc,e8 (45_control.md R362). -/
def Instr.jrIf (cc : Cond) (e : Byte) : Instr :=
  match cc with
  | .nz => .jr_NZ_e8 e | .z => .jr_Z_e8 e | .nc => .jr_NC_e8 e | .c => .jr_C_e8 e

/-- JP cc,a16 (R364). -/
def Instr.jpIf (cc : Cond) (a : Word) : Instr :=
  match cc with
  | .nz => .jp_NZ_a16 a | .z => .jp_Z_a16 a | .nc => .jp_NC_a16 a | .c => .jp_C_a16 a

/-- CALL cc,a16 (R367). -/
def Instr.callIf (cc : Cond) (a : Word) : Instr :=
  match cc with
  | .nz => .call_NZ_a16 a | .z => .call_Z_a16 a | .nc => .call_NC_a16 a | .c => .call_C_a16 a

/-- RET cc (R369). -/
def Instr.retIf (cc : Cond) : Instr :=
  match cc with
  | .nz => .ret_NZ | .z => .ret_Z | .nc => .ret_NC | .c => .ret_C

/-- RST y*8, by its 3-bit index (R372). -/
def Instr.rst (y : Fin 8) : Instr :=
  match y with
  | 0 => .rst_00 | 1 => .rst_08 | 2 => .rst_10 | 3 => .rst_18 | 4 => .rst_20 | 5 => .rst_28 | 6 => .rst_30 | 7 => .rst_38

/-- The twelve unsupported instructions with their opcode bytes (46_system.md R404). -/
def Instr.unsupportedList : List (Instr × Byte) :=
  [(.prefix_CB, 0xCB), (.unsupported_D3, 0xD3), (.unsupported_DB, 0xDB), (.unsupported_DD, 0xDD), (.unsupported_E3, 0xE3), (.unsupported_E4, 0xE4),
   (.unsupported_EB, 0xEB), (.unsupported_EC, 0xEC), (.unsupported_ED, 0xED), (.unsupported_F4, 0xF4), (.unsupported_FC, 0xFC), (.unsupported_FD, 0xFD)]

end Sys2Proof
end

