-- ==== Sys2Proof/Machine/Flags.lean ====
section
/-! DEFINITION. The flags register and every flag computation of the spec. Sums and differences are exact (`Nat`) and
are narrowed at the end, as the rules write them (42_alu8.md R270). -/

namespace Sys2Proof.Machine

/-- The four flags of F (10_state.md R34). -/
inductive Flag where
  | z | n | h | c
  deriving DecidableEq, Repr

/-- The bit of F that holds a flag (R34). -/
def Flag.bit : Flag → Nat
  | .z => 7 | .n => 6 | .h => 5 | .c => 4

/-- `F.Z`, `F.N`, `F.H`, `F.C` (R35). -/
def State.flag (s : State) (k : Flag) : Bool := s.f.getLsbD k.bit

/-- `F.Z <- b` and the like: one bit of F changes, no other (R35). -/
def State.setFlag (s : State) (k : Flag) (v : Bool) : State := { s with f := withBit s.f k.bit v }

/-- Values for all four flags. -/
structure FlagVals where
  z : Bool
  n : Bool
  h : Bool
  c : Bool
  deriving DecidableEq, Repr

/-- All four flag setters at once. -/
def State.setFlags (s : State) (v : FlagVals) : State :=
  (((s.setFlag .z v.z).setFlag .n v.n).setFlag .h v.h).setFlag .c v.c

/-- What an 8-bit operation leaves: a byte and the four flags. -/
structure AluResult where
  value : Byte
  flags : FlagVals
  deriving DecidableEq, Repr

/-- ADD (42_alu8.md R272). -/
def aluAdd (a s : Byte) : AluResult :=
  let t := a.toNat + s.toNat
  { value := BitVec.ofNat 8 t
    flags := { z := t % 256 == 0, n := false, h := decide (a.toNat % 16 + s.toNat % 16 > 0x0F), c := decide (t > 0xFF) } }

/-- ADC (R274): the carry-in takes part in all three computed flags. -/
def aluAdc (a s : Byte) (cin : Bool) : AluResult :=
  let t := a.toNat + s.toNat + cin.toNat
  { value := BitVec.ofNat 8 t
    flags :=
      { z := t % 256 == 0, n := false, h := decide (a.toNat % 16 + s.toNat % 16 + cin.toNat > 0x0F),
        c := decide (t > 0xFF) } }

/-- SUB (R275). -/
def aluSub (a s : Byte) : AluResult :=
  { value := a - s
    flags := { z := a - s == 0, n := true, h := decide (a.toNat % 16 < s.toNat % 16), c := decide (a.toNat < s.toNat) } }

/-- SBC (R276). -/
def aluSbc (a s : Byte) (cin : Bool) : AluResult :=
  let r := a - s - BitVec.ofNat 8 cin.toNat
  { value := r
    flags :=
      { z := r == 0, n := true, h := decide (a.toNat % 16 < s.toNat % 16 + cin.toNat),
        c := decide (a.toNat < s.toNat + cin.toNat) } }

/-- AND (R277). -/
def aluAnd (a s : Byte) : AluResult :=
  { value := a &&& s, flags := { z := a &&& s == 0, n := false, h := true, c := false } }

/-- XOR (R278). -/
def aluXor (a s : Byte) : AluResult :=
  { value := a ^^^ s, flags := { z := a ^^^ s == 0, n := false, h := false, c := false } }

/-- OR (R279). -/
def aluOr (a s : Byte) : AluResult :=
  { value := a ||| s, flags := { z := a ||| s == 0, n := false, h := false, c := false } }

/-- CP (R280): the flags of a subtraction, and A as it was. -/
def aluCp (a s : Byte) : AluResult :=
  { value := a
    flags := { z := a - s == 0, n := true, h := decide (a.toNat % 16 < s.toNat % 16), c := decide (a.toNat < s.toNat) } }

/-- The operation an ALU code selects (30_encoding.md R134). -/
def aluCompute (op : AluOp) (a s : Byte) (cin : Bool) : AluResult :=
  match op with
  | .add => aluAdd a s
  | .adc => aluAdc a s cin
  | .sub => aluSub a s
  | .sbc => aluSbc a s cin
  | .and => aluAnd a s
  | .xor => aluXor a s
  | .or => aluOr a s
  | .cp => aluCp a s

/-- The flags of INC: Z, N, H; C keeps its value (R281, R282). `v` is the byte before. -/
def State.incFlags (s : State) (v : Byte) : State :=
  ((s.setFlag .z (v + 1 == 0)).setFlag .n false).setFlag .h (v.toNat % 16 == 0x0F)

/-- The flags of DEC: Z, N, H; C keeps its value (R283, R284). `v` is the byte before. -/
def State.decFlags (s : State) (v : Byte) : State :=
  ((s.setFlag .z (v - 1 == 0)).setFlag .n true).setFlag .h (v.toNat % 16 == 0x00)

/-- The carry out of bit 11 of a 16-bit addition (43_alu16.md R312). -/
def carry11 (x y : Word) : Bool := decide (x.toNat % 0x1000 + y.toNat % 0x1000 > 0x0FFF)

/-- The carry out of bit 15 of a 16-bit addition (R312). -/
def carry15 (x y : Word) : Bool := decide (x.toNat + y.toNat > 0xFFFF)

/-- `SpPlusE8`: the sum with the byte sign-extended (41_load16.md R244). -/
def spPlusE8 (sp : Word) (e : Byte) : Word := sp + sext16 e

/-- `SpPlusE8`'s half-carry: carry out of bit 3 of the unsigned low-byte addition (R244). -/
def spHalfCarry (sp : Word) (e : Byte) : Bool := decide (sp.toNat % 16 + e.toNat % 16 > 0x0F)

/-- `SpPlusE8`'s carry: carry out of bit 7 of the unsigned low-byte addition (R244). -/
def spCarry (sp : Word) (e : Byte) : Bool := decide (sp.toNat % 256 + e.toNat > 0xFF)

/-- DAA's carry: set when the add branch adjusts by 0x60, else kept (44_rotate_misc.md R334). -/
def daaCarry (a : Byte) (n c : Bool) : Bool := c || (!n && decide (a.toNat > 0x99))

/-- DAA's value (R334); the second test of the add branch reads the byte after the first adjustment. -/
def daaValue (a : Byte) (n h c : Bool) : Byte :=
  if n then
    let a := if c then a - 0x60 else a
    if h then a - 0x06 else a
  else
    let a := if c || decide (a.toNat > 0x99) then a + 0x60 else a
    if h || decide (a.toNat % 16 > 0x09) then a + 0x06 else a

/-- RLCA's and RLA's byte: shifted left, bit 0 from `low` (R330, R332). -/
def rotateLeft (a : Byte) (low : Bool) : Byte := (a <<< 1) ||| BitVec.ofNat 8 low.toNat

/-- RRCA's and RRA's byte: shifted right, bit 7 from `high` (R331, R333). -/
def rotateRight (a : Byte) (high : Bool) : Byte := (a >>> 1) ||| (BitVec.ofNat 8 high.toNat <<< 7)

end Sys2Proof.Machine
end

