-- ==== Sys2Proof/Config.lean ====
section
/-! DEFINITION. The open parameters of the machine (00_scope.md R8, 92_eei_decisions.md D3): two tables indexed by
the opcode byte. They have no body, so a statement about the model holds for every value of them. The entries the
spec pins (NOP, the unsupported bytes, the non-conditional bytes) do not come from here:
`Machine.baseTicks` and `Machine.takenExtra` in Machine/Ops.lean put the pins over these (log entry 6). -/

namespace Sys2Proof.Config

/-- The entries of `BASE_TICKS` that the spec leaves open (R8, R126). FREE VALUE. -/
opaque freeBaseTicks : Byte → Nat

/-- The entries of `TAKEN_EXTRA` that the spec leaves open (R8, R126). FREE VALUE. -/
opaque freeTakenExtra : Byte → Nat

end Sys2Proof.Config
end

