-- ==== Sys2Proof/WellFormed.lean ====
section
/-! DEFINITION. What is well formed. An `Instr` term cannot be ill formed: the encoding admits every value of every
immediate and the operand types have exactly its width (30_encoding.md R131, R136; log entry 20). The two things of the
spec that can be ill formed are a byte list that does not hold a whole instruction (R127) and a program image of the
wrong size (70_reset_and_hazards.md R600, 92_eei_decisions.md D34). -/

namespace Sys2Proof

/-- Every operand has a value its encoding admits. No check is left to make: the operand types are the immediates. -/
def Instr.wellFormed (_ : Instr) : Bool := true

/-- Why a byte list is no instruction. -/
inductive DecodeError where
  /-- There is no opcode byte. -/
  | noBytes
  /-- The list ends before the immediate that the opcode byte asks for. -/
  | truncated (op : Byte)
  deriving DecidableEq, Repr

/-- A program image has exactly 32,768 bytes (D34). -/
def imageWellFormed (img : List Byte) : Bool := img.length == 32768

end Sys2Proof
end

