-- ==== Sys2Proof/Decode.lean ====
section
/-! DEFINITION. The decoder and, after it, the encoder. The decoder is the opcode map of 30_encoding.md R137: a table
of 16 rows by 16 columns whose entries say which instruction the byte selects and which immediate follows it (R131).
The encoder is written from the bit patterns of the instruction rules and never looks at the map. -/

namespace Sys2Proof

/-- An entry of the opcode map: the instruction, waiting for the immediate of its format (R131). -/
inductive Form where
  | op (i : Instr)
  | imm8 (f : Byte → Instr)
  | imm16 (f : Word → Instr)

/-- The number of bytes of an instruction of this format (R131). -/
def Form.length (f : Form) : Nat :=
  match f with
  | .op _ => 1
  | .imm8 _ => 2
  | .imm16 _ => 3

/-- Row 0x of the opcode map (R137). -/
def opcodeRow0 : List Form :=
  [.op .nop, .imm16 .ld_BC_d16, .op .ld_atBC_A, .op .inc_BC,
   .op .inc_B, .op .dec_B, .imm8 .ld_B_d8, .op .rlca,
   .imm16 .ld_atA16_SP, .op .add_HL_BC, .op .ld_A_atBC, .op .dec_BC,
   .op .inc_C, .op .dec_C, .imm8 .ld_C_d8, .op .rrca]

/-- Row 1x of the opcode map (R137). -/
def opcodeRow1 : List Form :=
  [.imm8 .stop, .imm16 .ld_DE_d16, .op .ld_atDE_A, .op .inc_DE,
   .op .inc_D, .op .dec_D, .imm8 .ld_D_d8, .op .rla,
   .imm8 .jr_e8, .op .add_HL_DE, .op .ld_A_atDE, .op .dec_DE,
   .op .inc_E, .op .dec_E, .imm8 .ld_E_d8, .op .rra]

/-- Row 2x of the opcode map (R137). -/
def opcodeRow2 : List Form :=
  [.imm8 .jr_NZ_e8, .imm16 .ld_HL_d16, .op .ld_atHLinc_A, .op .inc_HL,
   .op .inc_H, .op .dec_H, .imm8 .ld_H_d8, .op .daa,
   .imm8 .jr_Z_e8, .op .add_HL_HL, .op .ld_A_atHLinc, .op .dec_HL,
   .op .inc_L, .op .dec_L, .imm8 .ld_L_d8, .op .cpl]

/-- Row 3x of the opcode map (R137). -/
def opcodeRow3 : List Form :=
  [.imm8 .jr_NC_e8, .imm16 .ld_SP_d16, .op .ld_atHLdec_A, .op .inc_SP,
   .op .inc_atHL, .op .dec_atHL, .imm8 .ld_atHL_d8, .op .scf,
   .imm8 .jr_C_e8, .op .add_HL_SP, .op .ld_A_atHLdec, .op .dec_SP,
   .op .inc_A, .op .dec_A, .imm8 .ld_A_d8, .op .ccf]

/-- Row 4x of the opcode map (R137). -/
def opcodeRow4 : List Form :=
  [.op .ld_B_B, .op .ld_B_C, .op .ld_B_D, .op .ld_B_E,
   .op .ld_B_H, .op .ld_B_L, .op .ld_B_atHL, .op .ld_B_A,
   .op .ld_C_B, .op .ld_C_C, .op .ld_C_D, .op .ld_C_E,
   .op .ld_C_H, .op .ld_C_L, .op .ld_C_atHL, .op .ld_C_A]

/-- Row 5x of the opcode map (R137). -/
def opcodeRow5 : List Form :=
  [.op .ld_D_B, .op .ld_D_C, .op .ld_D_D, .op .ld_D_E,
   .op .ld_D_H, .op .ld_D_L, .op .ld_D_atHL, .op .ld_D_A,
   .op .ld_E_B, .op .ld_E_C, .op .ld_E_D, .op .ld_E_E,
   .op .ld_E_H, .op .ld_E_L, .op .ld_E_atHL, .op .ld_E_A]

/-- Row 6x of the opcode map (R137). -/
def opcodeRow6 : List Form :=
  [.op .ld_H_B, .op .ld_H_C, .op .ld_H_D, .op .ld_H_E,
   .op .ld_H_H, .op .ld_H_L, .op .ld_H_atHL, .op .ld_H_A,
   .op .ld_L_B, .op .ld_L_C, .op .ld_L_D, .op .ld_L_E,
   .op .ld_L_H, .op .ld_L_L, .op .ld_L_atHL, .op .ld_L_A]

/-- Row 7x of the opcode map (R137). -/
def opcodeRow7 : List Form :=
  [.op .ld_atHL_B, .op .ld_atHL_C, .op .ld_atHL_D, .op .ld_atHL_E,
   .op .ld_atHL_H, .op .ld_atHL_L, .op .halt, .op .ld_atHL_A,
   .op .ld_A_B, .op .ld_A_C, .op .ld_A_D, .op .ld_A_E,
   .op .ld_A_H, .op .ld_A_L, .op .ld_A_atHL, .op .ld_A_A]

/-- Row 8x of the opcode map (R137). -/
def opcodeRow8 : List Form :=
  [.op .add_A_B, .op .add_A_C, .op .add_A_D, .op .add_A_E,
   .op .add_A_H, .op .add_A_L, .op .add_A_atHL, .op .add_A_A,
   .op .adc_A_B, .op .adc_A_C, .op .adc_A_D, .op .adc_A_E,
   .op .adc_A_H, .op .adc_A_L, .op .adc_A_atHL, .op .adc_A_A]

/-- Row 9x of the opcode map (R137). -/
def opcodeRow9 : List Form :=
  [.op .sub_B, .op .sub_C, .op .sub_D, .op .sub_E,
   .op .sub_H, .op .sub_L, .op .sub_atHL, .op .sub_A,
   .op .sbc_A_B, .op .sbc_A_C, .op .sbc_A_D, .op .sbc_A_E,
   .op .sbc_A_H, .op .sbc_A_L, .op .sbc_A_atHL, .op .sbc_A_A]

/-- Row Ax of the opcode map (R137). -/
def opcodeRowA : List Form :=
  [.op .and_B, .op .and_C, .op .and_D, .op .and_E,
   .op .and_H, .op .and_L, .op .and_atHL, .op .and_A,
   .op .xor_B, .op .xor_C, .op .xor_D, .op .xor_E,
   .op .xor_H, .op .xor_L, .op .xor_atHL, .op .xor_A]

/-- Row Bx of the opcode map (R137). -/
def opcodeRowB : List Form :=
  [.op .or_B, .op .or_C, .op .or_D, .op .or_E,
   .op .or_H, .op .or_L, .op .or_atHL, .op .or_A,
   .op .cp_B, .op .cp_C, .op .cp_D, .op .cp_E,
   .op .cp_H, .op .cp_L, .op .cp_atHL, .op .cp_A]

/-- Row Cx of the opcode map (R137). -/
def opcodeRowC : List Form :=
  [.op .ret_NZ, .op .pop_BC, .imm16 .jp_NZ_a16, .imm16 .jp_a16,
   .imm16 .call_NZ_a16, .op .push_BC, .imm8 .add_A_d8, .op .rst_00,
   .op .ret_Z, .op .ret, .imm16 .jp_Z_a16, .op .prefix_CB,
   .imm16 .call_Z_a16, .imm16 .call_a16, .imm8 .adc_A_d8, .op .rst_08]

/-- Row Dx of the opcode map (R137). -/
def opcodeRowD : List Form :=
  [.op .ret_NC, .op .pop_DE, .imm16 .jp_NC_a16, .op .unsupported_D3,
   .imm16 .call_NC_a16, .op .push_DE, .imm8 .sub_d8, .op .rst_10,
   .op .ret_C, .op .reti, .imm16 .jp_C_a16, .op .unsupported_DB,
   .imm16 .call_C_a16, .op .unsupported_DD, .imm8 .sbc_A_d8, .op .rst_18]

/-- Row Ex of the opcode map (R137). -/
def opcodeRowE : List Form :=
  [.imm8 .ldh_atA8_A, .op .pop_HL, .op .ld_atC_A, .op .unsupported_E3,
   .op .unsupported_E4, .op .push_HL, .imm8 .and_d8, .op .rst_20,
   .imm8 .add_SP_e8, .op .jp_HL, .imm16 .ld_atA16_A, .op .unsupported_EB,
   .op .unsupported_EC, .op .unsupported_ED, .imm8 .xor_d8, .op .rst_28]

/-- Row Fx of the opcode map (R137). -/
def opcodeRowF : List Form :=
  [.imm8 .ldh_A_atA8, .op .pop_AF, .op .ld_A_atC, .op .di,
   .op .unsupported_F4, .op .push_AF, .imm8 .or_d8, .op .rst_30,
   .imm8 .ld_HL_SPe8, .op .ld_SP_HL, .imm16 .ld_A_atA16, .op .ei,
   .op .unsupported_FC, .op .unsupported_FD, .imm8 .cp_d8, .op .rst_38]

/-- The opcode map, indexed by high nibble and then low nibble (R137). -/
def opcodeMap : List (List Form) :=
  [opcodeRow0, opcodeRow1, opcodeRow2, opcodeRow3,
   opcodeRow4, opcodeRow5, opcodeRow6, opcodeRow7,
   opcodeRow8, opcodeRow9, opcodeRowA, opcodeRowB,
   opcodeRowC, opcodeRowD, opcodeRowE, opcodeRowF]

/-- The entry an opcode byte selects. The map has all 256 entries (`Laws.opcodeMap_total`), so the default is never
taken (R130). -/
def form (op : Byte) : Form :=
  (((opcodeMap[op.toNat / 16]?).getD [])[op.toNat % 16]?).getD (.op .nop)

/-- The instruction that an opcode byte and the two bytes after it stand for; a byte the format does not use is not
looked at (R127, R130, R131). Total. The second immediate byte is the high one (R129). -/
def decodeBytes (op b1 b2 : Byte) : Instr :=
  match form op with
  | .op i => i
  | .imm8 f => f b1
  | .imm16 f => f (concat b2 b1)

/-- The instruction at the head of a byte list and the bytes after it. The only rejections are a list with no opcode
byte and one that ends inside the instruction: every opcode byte has an entry (R130). -/
def decode (bytes : List Byte) : Except DecodeError (Instr × List Byte) :=
  match bytes with
  | [] => .error .noBytes
  | op :: rest =>
    match form op, rest with
    | .op i, rest => .ok (i, rest)
    | .imm8 f, b1 :: rest => .ok (f b1, rest)
    | .imm16 f, b1 :: b2 :: rest => .ok (f (concat b2 b1), rest)
    | _, _ => .error (.truncated op)

/-- The instruction the decoder reads from the table word `w` of `nbits` bits: its first byte is bits 7..0, the second
bits 15..8, the third bits 23..16, and every bit from `nbits` up is 0. -/
def decodeTableWord (nbits w : Nat) : Option Instr :=
  match decode (tableBytes nbits w) with
  | .ok (i, _) => some i
  | .error _ => none

/-- The bytes of an instruction (R131; each arm's bit pattern is that of the instruction's own rule). -/
def encode (i : Instr) : List Byte :=
  match i with
  | .nop => [0b00_000_000]
  | .ld_BC_d16 v => [0b00_000_001, loByte v, hiByte v]
  | .ld_atBC_A => [0b00_000_010]
  | .inc_BC => [0b00_000_011]
  | .inc_B => [0b00_000_100]
  | .dec_B => [0b00_000_101]
  | .ld_B_d8 n => [0b00_000_110, n]
  | .rlca => [0b00_000_111]
  | .ld_atA16_SP a => [0b00_001_000, loByte a, hiByte a]
  | .add_HL_BC => [0b00_001_001]
  | .ld_A_atBC => [0b00_001_010]
  | .dec_BC => [0b00_001_011]
  | .inc_C => [0b00_001_100]
  | .dec_C => [0b00_001_101]
  | .ld_C_d8 n => [0b00_001_110, n]
  | .rrca => [0b00_001_111]
  | .stop n => [0b00_010_000, n]
  | .ld_DE_d16 v => [0b00_010_001, loByte v, hiByte v]
  | .ld_atDE_A => [0b00_010_010]
  | .inc_DE => [0b00_010_011]
  | .inc_D => [0b00_010_100]
  | .dec_D => [0b00_010_101]
  | .ld_D_d8 n => [0b00_010_110, n]
  | .rla => [0b00_010_111]
  | .jr_e8 e => [0b00_011_000, e]
  | .add_HL_DE => [0b00_011_001]
  | .ld_A_atDE => [0b00_011_010]
  | .dec_DE => [0b00_011_011]
  | .inc_E => [0b00_011_100]
  | .dec_E => [0b00_011_101]
  | .ld_E_d8 n => [0b00_011_110, n]
  | .rra => [0b00_011_111]
  | .jr_NZ_e8 e => [0b00_100_000, e]
  | .ld_HL_d16 v => [0b00_100_001, loByte v, hiByte v]
  | .ld_atHLinc_A => [0b00_100_010]
  | .inc_HL => [0b00_100_011]
  | .inc_H => [0b00_100_100]
  | .dec_H => [0b00_100_101]
  | .ld_H_d8 n => [0b00_100_110, n]
  | .daa => [0b00_100_111]
  | .jr_Z_e8 e => [0b00_101_000, e]
  | .add_HL_HL => [0b00_101_001]
  | .ld_A_atHLinc => [0b00_101_010]
  | .dec_HL => [0b00_101_011]
  | .inc_L => [0b00_101_100]
  | .dec_L => [0b00_101_101]
  | .ld_L_d8 n => [0b00_101_110, n]
  | .cpl => [0b00_101_111]
  | .jr_NC_e8 e => [0b00_110_000, e]
  | .ld_SP_d16 v => [0b00_110_001, loByte v, hiByte v]
  | .ld_atHLdec_A => [0b00_110_010]
  | .inc_SP => [0b00_110_011]
  | .inc_atHL => [0b00_110_100]
  | .dec_atHL => [0b00_110_101]
  | .ld_atHL_d8 n => [0b00_110_110, n]
  | .scf => [0b00_110_111]
  | .jr_C_e8 e => [0b00_111_000, e]
  | .add_HL_SP => [0b00_111_001]
  | .ld_A_atHLdec => [0b00_111_010]
  | .dec_SP => [0b00_111_011]
  | .inc_A => [0b00_111_100]
  | .dec_A => [0b00_111_101]
  | .ld_A_d8 n => [0b00_111_110, n]
  | .ccf => [0b00_111_111]
  | .ld_B_B => [0b01_000_000]
  | .ld_B_C => [0b01_000_001]
  | .ld_B_D => [0b01_000_010]
  | .ld_B_E => [0b01_000_011]
  | .ld_B_H => [0b01_000_100]
  | .ld_B_L => [0b01_000_101]
  | .ld_B_atHL => [0b01_000_110]
  | .ld_B_A => [0b01_000_111]
  | .ld_C_B => [0b01_001_000]
  | .ld_C_C => [0b01_001_001]
  | .ld_C_D => [0b01_001_010]
  | .ld_C_E => [0b01_001_011]
  | .ld_C_H => [0b01_001_100]
  | .ld_C_L => [0b01_001_101]
  | .ld_C_atHL => [0b01_001_110]
  | .ld_C_A => [0b01_001_111]
  | .ld_D_B => [0b01_010_000]
  | .ld_D_C => [0b01_010_001]
  | .ld_D_D => [0b01_010_010]
  | .ld_D_E => [0b01_010_011]
  | .ld_D_H => [0b01_010_100]
  | .ld_D_L => [0b01_010_101]
  | .ld_D_atHL => [0b01_010_110]
  | .ld_D_A => [0b01_010_111]
  | .ld_E_B => [0b01_011_000]
  | .ld_E_C => [0b01_011_001]
  | .ld_E_D => [0b01_011_010]
  | .ld_E_E => [0b01_011_011]
  | .ld_E_H => [0b01_011_100]
  | .ld_E_L => [0b01_011_101]
  | .ld_E_atHL => [0b01_011_110]
  | .ld_E_A => [0b01_011_111]
  | .ld_H_B => [0b01_100_000]
  | .ld_H_C => [0b01_100_001]
  | .ld_H_D => [0b01_100_010]
  | .ld_H_E => [0b01_100_011]
  | .ld_H_H => [0b01_100_100]
  | .ld_H_L => [0b01_100_101]
  | .ld_H_atHL => [0b01_100_110]
  | .ld_H_A => [0b01_100_111]
  | .ld_L_B => [0b01_101_000]
  | .ld_L_C => [0b01_101_001]
  | .ld_L_D => [0b01_101_010]
  | .ld_L_E => [0b01_101_011]
  | .ld_L_H => [0b01_101_100]
  | .ld_L_L => [0b01_101_101]
  | .ld_L_atHL => [0b01_101_110]
  | .ld_L_A => [0b01_101_111]
  | .ld_atHL_B => [0b01_110_000]
  | .ld_atHL_C => [0b01_110_001]
  | .ld_atHL_D => [0b01_110_010]
  | .ld_atHL_E => [0b01_110_011]
  | .ld_atHL_H => [0b01_110_100]
  | .ld_atHL_L => [0b01_110_101]
  | .halt => [0b01_110_110]
  | .ld_atHL_A => [0b01_110_111]
  | .ld_A_B => [0b01_111_000]
  | .ld_A_C => [0b01_111_001]
  | .ld_A_D => [0b01_111_010]
  | .ld_A_E => [0b01_111_011]
  | .ld_A_H => [0b01_111_100]
  | .ld_A_L => [0b01_111_101]
  | .ld_A_atHL => [0b01_111_110]
  | .ld_A_A => [0b01_111_111]
  | .add_A_B => [0b10_000_000]
  | .add_A_C => [0b10_000_001]
  | .add_A_D => [0b10_000_010]
  | .add_A_E => [0b10_000_011]
  | .add_A_H => [0b10_000_100]
  | .add_A_L => [0b10_000_101]
  | .add_A_atHL => [0b10_000_110]
  | .add_A_A => [0b10_000_111]
  | .adc_A_B => [0b10_001_000]
  | .adc_A_C => [0b10_001_001]
  | .adc_A_D => [0b10_001_010]
  | .adc_A_E => [0b10_001_011]
  | .adc_A_H => [0b10_001_100]
  | .adc_A_L => [0b10_001_101]
  | .adc_A_atHL => [0b10_001_110]
  | .adc_A_A => [0b10_001_111]
  | .sub_B => [0b10_010_000]
  | .sub_C => [0b10_010_001]
  | .sub_D => [0b10_010_010]
  | .sub_E => [0b10_010_011]
  | .sub_H => [0b10_010_100]
  | .sub_L => [0b10_010_101]
  | .sub_atHL => [0b10_010_110]
  | .sub_A => [0b10_010_111]
  | .sbc_A_B => [0b10_011_000]
  | .sbc_A_C => [0b10_011_001]
  | .sbc_A_D => [0b10_011_010]
  | .sbc_A_E => [0b10_011_011]
  | .sbc_A_H => [0b10_011_100]
  | .sbc_A_L => [0b10_011_101]
  | .sbc_A_atHL => [0b10_011_110]
  | .sbc_A_A => [0b10_011_111]
  | .and_B => [0b10_100_000]
  | .and_C => [0b10_100_001]
  | .and_D => [0b10_100_010]
  | .and_E => [0b10_100_011]
  | .and_H => [0b10_100_100]
  | .and_L => [0b10_100_101]
  | .and_atHL => [0b10_100_110]
  | .and_A => [0b10_100_111]
  | .xor_B => [0b10_101_000]
  | .xor_C => [0b10_101_001]
  | .xor_D => [0b10_101_010]
  | .xor_E => [0b10_101_011]
  | .xor_H => [0b10_101_100]
  | .xor_L => [0b10_101_101]
  | .xor_atHL => [0b10_101_110]
  | .xor_A => [0b10_101_111]
  | .or_B => [0b10_110_000]
  | .or_C => [0b10_110_001]
  | .or_D => [0b10_110_010]
  | .or_E => [0b10_110_011]
  | .or_H => [0b10_110_100]
  | .or_L => [0b10_110_101]
  | .or_atHL => [0b10_110_110]
  | .or_A => [0b10_110_111]
  | .cp_B => [0b10_111_000]
  | .cp_C => [0b10_111_001]
  | .cp_D => [0b10_111_010]
  | .cp_E => [0b10_111_011]
  | .cp_H => [0b10_111_100]
  | .cp_L => [0b10_111_101]
  | .cp_atHL => [0b10_111_110]
  | .cp_A => [0b10_111_111]
  | .ret_NZ => [0b11_000_000]
  | .pop_BC => [0b11_000_001]
  | .jp_NZ_a16 a => [0b11_000_010, loByte a, hiByte a]
  | .jp_a16 a => [0b11_000_011, loByte a, hiByte a]
  | .call_NZ_a16 a => [0b11_000_100, loByte a, hiByte a]
  | .push_BC => [0b11_000_101]
  | .add_A_d8 n => [0b11_000_110, n]
  | .rst_00 => [0b11_000_111]
  | .ret_Z => [0b11_001_000]
  | .ret => [0b11_001_001]
  | .jp_Z_a16 a => [0b11_001_010, loByte a, hiByte a]
  | .prefix_CB => [0b11_001_011]
  | .call_Z_a16 a => [0b11_001_100, loByte a, hiByte a]
  | .call_a16 a => [0b11_001_101, loByte a, hiByte a]
  | .adc_A_d8 n => [0b11_001_110, n]
  | .rst_08 => [0b11_001_111]
  | .ret_NC => [0b11_010_000]
  | .pop_DE => [0b11_010_001]
  | .jp_NC_a16 a => [0b11_010_010, loByte a, hiByte a]
  | .unsupported_D3 => [0b11_010_011]
  | .call_NC_a16 a => [0b11_010_100, loByte a, hiByte a]
  | .push_DE => [0b11_010_101]
  | .sub_d8 n => [0b11_010_110, n]
  | .rst_10 => [0b11_010_111]
  | .ret_C => [0b11_011_000]
  | .reti => [0b11_011_001]
  | .jp_C_a16 a => [0b11_011_010, loByte a, hiByte a]
  | .unsupported_DB => [0b11_011_011]
  | .call_C_a16 a => [0b11_011_100, loByte a, hiByte a]
  | .unsupported_DD => [0b11_011_101]
  | .sbc_A_d8 n => [0b11_011_110, n]
  | .rst_18 => [0b11_011_111]
  | .ldh_atA8_A n => [0b11_100_000, n]
  | .pop_HL => [0b11_100_001]
  | .ld_atC_A => [0b11_100_010]
  | .unsupported_E3 => [0b11_100_011]
  | .unsupported_E4 => [0b11_100_100]
  | .push_HL => [0b11_100_101]
  | .and_d8 n => [0b11_100_110, n]
  | .rst_20 => [0b11_100_111]
  | .add_SP_e8 e => [0b11_101_000, e]
  | .jp_HL => [0b11_101_001]
  | .ld_atA16_A a => [0b11_101_010, loByte a, hiByte a]
  | .unsupported_EB => [0b11_101_011]
  | .unsupported_EC => [0b11_101_100]
  | .unsupported_ED => [0b11_101_101]
  | .xor_d8 n => [0b11_101_110, n]
  | .rst_28 => [0b11_101_111]
  | .ldh_A_atA8 n => [0b11_110_000, n]
  | .pop_AF => [0b11_110_001]
  | .ld_A_atC => [0b11_110_010]
  | .di => [0b11_110_011]
  | .unsupported_F4 => [0b11_110_100]
  | .push_AF => [0b11_110_101]
  | .or_d8 n => [0b11_110_110, n]
  | .rst_30 => [0b11_110_111]
  | .ld_HL_SPe8 e => [0b11_111_000, e]
  | .ld_SP_HL => [0b11_111_001]
  | .ld_A_atA16 a => [0b11_111_010, loByte a, hiByte a]
  | .ei => [0b11_111_011]
  | .unsupported_FC => [0b11_111_100]
  | .unsupported_FD => [0b11_111_101]
  | .cp_d8 n => [0b11_111_110, n]
  | .rst_38 => [0b11_111_111]

/-- The 3-bit register code (R132). -/
def Reg.code (r : Reg) : Byte :=
  match r with
  | .b => 0 | .c => 1 | .d => 2 | .e => 3 | .h => 4 | .l => 5 | .a => 7

/-- The 2-bit pair code of `rp[p]` (R133). -/
def Pair.code (p : Pair) : Byte :=
  match p with
  | .bc => 0 | .de => 1 | .hl => 2 | .sp => 3

/-- The 2-bit pair code of `rp2[p]` (R133). -/
def StackPair.code (p : StackPair) : Byte :=
  match p with
  | .bc => 0 | .de => 1 | .hl => 2 | .af => 3

/-- The 2-bit condition code (R135). -/
def Cond.code (cc : Cond) : Byte :=
  match cc with
  | .nz => 0 | .z => 1 | .nc => 2 | .c => 3

/-- The 3-bit ALU operation code (R134). -/
def AluOp.code (op : AluOp) : Byte :=
  match op with
  | .add => 0 | .adc => 1 | .sub => 2 | .sbc => 3 | .and => 4 | .xor => 5 | .or => 6 | .cp => 7

/-- The opcode byte of an instruction. -/
def Instr.opcode (i : Instr) : Byte := (encode i).headD 0

/-- The number of bytes of an instruction (R127, R131). -/
def Instr.length (i : Instr) : Nat := (encode i).length

end Sys2Proof
end

