-- ==== Sys2Proof/Machine/Ops.lean ====
section
/-! DEFINITION. The operations that every meaning goes through: sequencing with the fatal outcome, the bus and its
arrays, the stack, the tick cost, interrupt dispatch and the return from it, and fetch. -/

namespace Sys2Proof.Machine

/-- What an operation answers. -/
abbrev Out := Host.Outcome State Fault Refusal

/-- Statements in order: the second runs on the state the first left, and not at all after a fault (00_scope.md R10,
60_exceptions.md R500). -/
def andThen (o : Out) (k : State → Out) : Out :=
  match o with
  | .next s => k s
  | .fault r => .fault r
  | .refused r => .refused r

/-- `raise Fatal(reason)`: the reason is recorded and nothing after it happens; the state keeps the writes made so far
(60_exceptions.md R500, R502; log entry 1). -/
def raiseFatal (reason : FatalReason) (s : State) : Out := .fault (.fatal reason { s with fatal := some reason })

/-! ### The arrays (10_state.md R49) -/

/-- The bus's disjoint arrays (R49). -/
inductive Region where
  | rom | vram | eram | wram | oam | io | hram
  deriving DecidableEq, Repr

/-- The first address of an array's first window (20_memory.md R71); it keys the array's cells (log entry 4). -/
def Region.base : Region → Nat
  | .rom => 0x0000 | .vram => 0x8000 | .eram => 0xA000 | .wram => 0xC000 | .oam => 0xFE00 | .io => 0xFF00 | .hram => 0xFF80

/-- The size of an array (R49). -/
def Region.size : Region → Nat
  | .rom => 0x8000 | .vram => 0x2000 | .eram => 0x2000 | .wram => 0x2000 | .oam => 0x100 | .io => 0x80 | .hram => 0x80

/-- What a cell that the list does not hold reads as (R600: all arrays but ROM start as zero; log entry 4). -/
def Memory.unlisted : Byte := 0x00

/-- The key is that of a byte of one of the seven arrays. -/
def Memory.isKey (k : Nat) : Bool := decide (k < 0xE000 ∨ 0xFE00 ≤ k ∧ k < 0x10000)

/-- The canonical form: keys strictly rising, each the key of an array's byte, and no cell that holds what an unlisted
one reads as. -/
abbrev Memory.wf (m : Memory) : Prop :=
  m.Pairwise (fun x y => x.1 < y.1) ∧ ∀ x ∈ m, x.2 ≠ Memory.unlisted ∧ Memory.isKey x.1 = true

/-- The cell with key `k`. -/
def Memory.read (m : Memory) (k : Nat) : Byte :=
  match m with
  | [] => Memory.unlisted
  | x :: m => if x.1 = k then x.2 else Memory.read m k

/-- The cell with key `k` becomes `v`; the canonical form is kept. -/
def Memory.write (m : Memory) (k : Nat) (v : Byte) : Memory :=
  match m with
  | [] => if v = Memory.unlisted then [] else [(k, v)]
  | x :: m =>
    if x.1 < k then x :: Memory.write m k v
    else if x.1 = k then (if v = Memory.unlisted then m else (k, v) :: m)
    else if v = Memory.unlisted then x :: m else (k, v) :: x :: m

/-! ### Routing (20_memory.md R71, R72, R76) -/

/-- The registers behind the intercepted addresses (R76). -/
inductive IoReg where
  | ifl | lcdc | scy | scx | ly | dma | ie
  deriving DecidableEq, Repr

/-- What an address reaches: a byte of an array, or an intercepted register. -/
inductive Place where
  | array (r : Region) (off : Nat)
  | reg (r : IoReg)
  deriving DecidableEq, Repr

/-- The map of R71 with the intercepted addresses of R76, in the order of R80's tests. Total (R72). -/
def route (a : Word) : Place :=
  if a.toNat ≤ 0x7FFF then .array .rom a.toNat
  else if a.toNat ≤ 0x9FFF then .array .vram (a.toNat - 0x8000)
  else if a.toNat ≤ 0xBFFF then .array .eram (a.toNat - 0xA000)
  else if a.toNat ≤ 0xDFFF then .array .wram (a.toNat - 0xC000)
  else if a.toNat ≤ 0xFDFF then .array .wram (a.toNat - 0xE000)
  else if a.toNat ≤ 0xFEFF then .array .oam (a.toNat - 0xFE00)
  else if a.toNat = 0xFF0F then .reg .ifl
  else if a.toNat = 0xFF40 then .reg .lcdc
  else if a.toNat = 0xFF42 then .reg .scy
  else if a.toNat = 0xFF43 then .reg .scx
  else if a.toNat = 0xFF44 then .reg .ly
  else if a.toNat = 0xFF46 then .reg .dma
  else if a.toNat ≤ 0xFF7F then .array .io (a.toNat - 0xFF00)
  else if a.toNat ≤ 0xFFFE then .array .hram (a.toNat - 0xFF80)
  else .reg .ie

/-- The byte of array `r` at offset `off`. -/
def State.arrayByte (s : State) (r : Region) (off : Nat) : Byte := s.mem.read (r.base + off)

/-- `r[off] <- v`. -/
def State.setArrayByte (s : State) (r : Region) (off : Nat) (v : Byte) : State :=
  { s with mem := s.mem.write (r.base + off) v }

/-- What a read of an intercepted register returns (R76). -/
def State.ioReg (s : State) (r : IoReg) : Byte :=
  match r with
  | .ifl => s.ifl
  | .lcdc => s.lcdc
  | .scy => s.scy
  | .scx => s.scx
  | .ly => BitVec.ofNat 8 s.line
  | .dma => s.dma
  | .ie => s.ie

/-- `MemRead(a, 1)` (R80). Total, and without side effect (R98). -/
def State.readByte (s : State) (a : Word) : Byte :=
  match route a with
  | .array r off => s.arrayByte r off
  | .reg r => s.ioReg r

/-- The DMA copy's loop: the bytes `i`, `i + 1`, … of OAM, `n` of them, each read through the bus before it is written
(R87). -/
def dmaCopyFrom (base : Word) (n i : Nat) (s : State) : State :=
  match n with
  | 0 => s
  | n + 1 => dmaCopyFrom base n (i + 1) (s.setArrayByte .oam i (s.readByte (base + BitVec.ofNat 16 i)))

/-- `DmaCopy(v)`: 160 bytes from `v << 8` to OAM, in ascending order (R87). -/
def dmaCopy (v : Byte) (s : State) : State := dmaCopyFrom (concat v 0x00) 160 0 s

/-- A write of an intercepted register (R76, R85): IF and IE take all 8 bits (R88), LY discards (R89), DMA copies (R87). -/
def State.setIoReg (s : State) (r : IoReg) (v : Byte) : State :=
  match r with
  | .ifl => { s with ifl := v }
  | .lcdc => { s with lcdc := v }
  | .scy => { s with scy := v }
  | .scx => { s with scx := v }
  | .ly => s
  | .dma => dmaCopy v { s with dma := v }
  | .ie => { s with ie := v }

/-- `MemWrite(a, 1, v)` (R85). A write to ROM is fatal (R86). -/
def writeByte (a : Word) (v : Byte) (s : State) : Out :=
  match route a with
  | .array .rom _ => raiseFatal (.romWrite a v) s
  | .array r off => .next (s.setArrayByte r off v)
  | .reg r => .next (s.setIoReg r v)

/-- `MemRead(a, 2)`: low byte at `a`, high byte at `a + 1` modulo 2^16 (R90). -/
def State.readShort (s : State) (a : Word) : Word := concat (s.readByte (a + 1)) (s.readByte a)

/-- `MemWrite(a, 2, v)`: the low byte is written first (R91). -/
def writeShort (a : Word) (v : Word) (s : State) : Out :=
  andThen (writeByte a (loByte v) s) fun s => writeByte (a + 1) (hiByte v) s

/-- `Push16(v)`: SP is decremented before either write (R93). -/
def push16 (v : Word) (s : State) : Out := writeShort (s.sp - 2) v { s with sp := s.sp - 2 }

/-- The value `Pop16()` returns (R94). -/
def State.stackTop (s : State) : Word := s.readShort s.sp

/-- What `Pop16()` does to SP, after the read (R94). -/
def State.dropTop (s : State) : State := { s with sp := s.sp + 2 }

/-! ### Cost (30_encoding.md R126) -/

/-- The opcode bytes with no handler (46_system.md R404). -/
def unsupportedOpcodes : List Byte := [0xCB, 0xD3, 0xDB, 0xDD, 0xE3, 0xE4, 0xEB, 0xEC, 0xED, 0xF4, 0xFC, 0xFD]

/-- The sixteen conditional JR, JP, CALL and RET bytes (00_scope.md R8). -/
def conditionalOpcodes : List Byte :=
  [0x20, 0x28, 0x30, 0x38, 0xC0, 0xC8, 0xD0, 0xD8, 0xC2, 0xCA, 0xD2, 0xDA, 0xC4, 0xCC, 0xD4, 0xDC]

/-- `BASE_TICKS[op]`: 2 for NOP, 0 for the unsupported bytes, open otherwise (R8; 92_eei_decisions.md D3). -/
def baseTicks (op : Byte) : Nat :=
  if op = 0x00 then 2 else if op ∈ unsupportedOpcodes then 0 else Config.freeBaseTicks op

/-- `TAKEN_EXTRA[op]`: open for the conditional bytes, 0 otherwise (R8; D3). -/
def takenExtra (op : Byte) : Nat := if op ∈ conditionalOpcodes then Config.freeTakenExtra op else 0

/-- `Cost(op, taken)` (R126). -/
def cost (op : Byte) (taken : Bool) : Nat := baseTicks op + if taken then takenExtra op else 0

/-- The end of an instruction: its cost is added once it has executed (R121, R126; log entry 3). -/
def finish (op : Byte) (taken : Bool) (s : State) : Out := .next { s with ticks := s.ticks + cost op taken }

/-! ### Fetch (30_encoding.md R122, R128, R129) -/

/-- The instruction at PC, its immediate bytes read through the bus. Reads have no side effect, and every instruction
reads its immediates before it writes anything, so they can be read with the opcode (R98; log entry 3). -/
def fetch (s : State) : Instr :=
  decodeBytes (s.readByte s.pc) (s.readByte (s.pc + 1)) (s.readByte (s.pc + 2))

/-- PC moves past `n` immediate bytes, as `Imm8()` and `Imm16()` move it (R128, R129). -/
def State.consume (s : State) (n : Nat) : State := { s with pc := s.pc + BitVec.ofNat 16 n }

/-! ### Interrupts (60_exceptions.md R510..R523) -/

/-- The bit of IE and IF of a source (R510). -/
def Source.bit : Source → Nat
  | .vblank => 0 | .displayStatus => 1 | .timer => 2 | .serial => 3 | .joypad => 4

/-- The vector of a source, `0x0040 + 8 * k` (R510, R522). -/
def Source.vector (k : Source) : Word := BitVec.ofNat 16 (0x40 + 8 * k.bit)

/-- `request(source)` (R511). -/
def State.request (s : State) (k : Source) : State := { s with ifl := withBit s.ifl k.bit true }

/-- The ticks of a dispatch (R522). -/
def dispatchTicks : Nat := 12

/-- TAKING AN INTERRUPT, `Dispatch(k)` (R522): the pending bit is cleared, PC is pushed, IME is cleared, PC goes to the
vector, 12 ticks are added. A push into ROM is fatal with the bit already clear. -/
def dispatch (k : Source) (s : State) : Out :=
  andThen (push16 s.pc { s with ifl := withBit s.ifl k.bit false }) fun s =>
    .next { s with ime := false, pc := k.vector, ticks := s.ticks + dispatchTicks }

/-- RETURNING FROM AN INTERRUPT, `return_from_interrupt`: IME is set and PC popped (R523; 45_control.md R370). -/
def returnFromInterrupt (s : State) : State := { s.dropTop with ime := true, pc := s.stackTop }

/-- The source that is enabled and pending with the lowest bit (R520, R521). Bits 5..7 take no part. -/
def pendingSource (ie ifl : Byte) : Option Source :=
  [Source.vblank, .displayStatus, .timer, .serial, .joypad].find? fun k => ie.getLsbD k.bit && ifl.getLsbD k.bit

/-- The interrupt phase (R520): at most one dispatch, and none while IME is clear. -/
def interruptStep (s : State) : Out :=
  if s.ime then
    match pendingSource s.ie s.ifl with
    | none => .next s
    | some k => dispatch k s
  else .next s

/-! ### Placing a byte from outside the machine (log entry 5) -/

/-- The byte that a read of `a` returns is made `v`, with no side effect: what loading a program does to the fetched
byte. No step of the machine does this. -/
def State.poke (s : State) (a : Word) (v : Byte) : State :=
  match route a with
  | .array r off => s.setArrayByte r off v
  | .reg .ifl => { s with ifl := v }
  | .reg .lcdc => { s with lcdc := v }
  | .reg .scy => { s with scy := v }
  | .reg .scx => { s with scx := v }
  | .reg .ly => { s with line := v.toNat }
  | .reg .dma => { s with dma := v }
  | .reg .ie => { s with ie := v }

end Sys2Proof.Machine
end

