-- ==== Sys2Proof/Machine/Operands.lean ====
section
/-! DEFINITION. The operand forms: registers, pairs, conditions, the ALU source and the computed addresses
(30_encoding.md R132..R136). -/

namespace Sys2Proof.Machine

/-- `x[r]` (10_state.md R30; R132). -/
def State.reg (s : State) (r : Reg) : Byte :=
  match r with
  | .b => s.b | .c => s.c | .d => s.d | .e => s.e | .h => s.h | .l => s.l | .a => s.a

/-- `x[r] <- v`. -/
def State.setReg (s : State) (r : Reg) (v : Byte) : State :=
  match r with
  | .b => { s with b := v }
  | .c => { s with c := v }
  | .d => { s with d := v }
  | .e => { s with e := v }
  | .h => { s with h := v }
  | .l => { s with l := v }
  | .a => { s with a := v }

/-- The pair HL, first register high (10_state.md R32). -/
def State.hl (s : State) : Word := concat s.h s.l

/-- The pair BC (R32). -/
def State.bc (s : State) : Word := concat s.b s.c

/-- The pair DE (R32). -/
def State.de (s : State) : Word := concat s.d s.e

/-- The pair AF (R32). -/
def State.af (s : State) : Word := concat s.a s.f

/-- `HL <- v` (10_state.md R33). -/
def State.setHL (s : State) (v : Word) : State := { s with h := hiByte v, l := loByte v }

/-- `BC <- v` (R33). -/
def State.setBC (s : State) (v : Word) : State := { s with b := hiByte v, c := loByte v }

/-- `DE <- v` (R33). -/
def State.setDE (s : State) (v : Word) : State := { s with d := hiByte v, e := loByte v }

/-- `AF <- v`: F is written through its four flags, so the low nibble of the value is discarded (R33; 41_load16.md R251). -/
def State.setAF (s : State) (v : Word) : State :=
  { s with a := hiByte v }.setFlags { z := v.getLsbD 7, n := v.getLsbD 6, h := v.getLsbD 5, c := v.getLsbD 4 }

/-- `rp[p]` (R133). -/
def State.pair (s : State) (p : Pair) : Word :=
  match p with
  | .bc => s.bc | .de => s.de | .hl => s.hl | .sp => s.sp

/-- `rp[p] <- v` (R133). -/
def State.setPair (s : State) (p : Pair) (v : Word) : State :=
  match p with
  | .bc => s.setBC v
  | .de => s.setDE v
  | .hl => s.setHL v
  | .sp => { s with sp := v }

/-- `rp2[p]` (R133). -/
def State.stackPair (s : State) (p : StackPair) : Word :=
  match p with
  | .bc => s.bc | .de => s.de | .hl => s.hl | .af => s.af

/-- `rp2[p] <- v` (R133; 41_load16.md R251). -/
def State.setStackPair (s : State) (p : StackPair) (v : Word) : State :=
  match p with
  | .bc => s.setBC v
  | .de => s.setDE v
  | .hl => s.setHL v
  | .af => s.setAF v

/-- `Cond(cc)` (R135). -/
def State.cond (s : State) (cc : Cond) : Bool :=
  match cc with
  | .nz => !s.flag .z
  | .z => s.flag .z
  | .nc => !s.flag .c
  | .c => s.flag .c

/-- `AluSource(op)`: the value of the source operand (42_alu8.md R271). -/
def State.aluSrc (s : State) (src : AluSrc) : Byte :=
  match src with
  | .reg r => s.reg r
  | .atHL => s.readByte s.hl
  | .d8 n => n

/-- How many immediate bytes the source operand has (R271). -/
def aluSrcBytes (src : AluSrc) : Nat :=
  match src with
  | .reg _ => 0 | .atHL => 0 | .d8 _ => 1

/-- `0xFF00 + zext_16(n)`, the address of the a8 and (C) forms (R136). -/
def highPage (n : Byte) : Word := 0xFF00 + zext16 n

/-- The target of a relative jump, from the address after the instruction (45_control.md R360). -/
def jumpTarget (pc : Word) (e : Byte) : Word := pc + sext16 e

/-- The target of RST (R136; 45_control.md R372). -/
def rstTarget (y : Fin 8) : Word := BitVec.ofNat 16 (y.val * 8)

end Sys2Proof.Machine
end

