-- ==== Sys2Proof/Machine/Alu16.lean ====
section
/-! DEFINITION. The meanings of the 16-bit arithmetic (43_alu16.md). A meaning starts where its rule's pseudocode starts: PC is
the address of the opcode byte plus 1 (log entry 3). The shared operations come first, then one definition per instruction. -/

namespace Sys2Proof.Machine

/-- `rp[p] <- rp[p] + 1` (R310). -/
def incPair16 (op : Byte) (p : Pair) (s : State) : Out := finish op false (s.setPair p (s.pair p + 1))

/-- `rp[p] <- rp[p] - 1` (R311). -/
def decPair16 (op : Byte) (p : Pair) (s : State) : Out := finish op false (s.setPair p (s.pair p - 1))

/-- `HL <- HL + rp[p]`; N, H, C written, Z kept (R312). -/
def addHLPair (op : Byte) (p : Pair) (s : State) : Out :=
  finish op false
    ((((s.setHL (s.hl + s.pair p)).setFlag .n false).setFlag .h (carry11 s.hl (s.pair p))).setFlag .c
      (carry15 s.hl (s.pair p)))

/-- `SP <- SP + e`, with the flags of `SpPlusE8` (R313; 41_load16.md R244). -/
def addSPe8 (op : Byte) (e : Byte) (s : State) : Out :=
  finish op false
    (({ s.consume 1 with sp := spPlusE8 s.sp e } : State).setFlags
      { z := false, n := false, h := spHalfCarry s.sp e, c := spCarry s.sp e })

/-- INC BC (R310). -/
def exec_inc_BC (s : State) : Out := incPair16 0x03 .bc s

/-- ADD HL,BC (R312). -/
def exec_add_HL_BC (s : State) : Out := addHLPair 0x09 .bc s

/-- DEC BC (R311). -/
def exec_dec_BC (s : State) : Out := decPair16 0x0B .bc s

/-- INC DE (R310). -/
def exec_inc_DE (s : State) : Out := incPair16 0x13 .de s

/-- ADD HL,DE (R312). -/
def exec_add_HL_DE (s : State) : Out := addHLPair 0x19 .de s

/-- DEC DE (R311). -/
def exec_dec_DE (s : State) : Out := decPair16 0x1B .de s

/-- INC HL (R310). -/
def exec_inc_HL (s : State) : Out := incPair16 0x23 .hl s

/-- ADD HL,HL (R312). -/
def exec_add_HL_HL (s : State) : Out := addHLPair 0x29 .hl s

/-- DEC HL (R311). -/
def exec_dec_HL (s : State) : Out := decPair16 0x2B .hl s

/-- INC SP (R310). -/
def exec_inc_SP (s : State) : Out := incPair16 0x33 .sp s

/-- ADD HL,SP (R312). -/
def exec_add_HL_SP (s : State) : Out := addHLPair 0x39 .sp s

/-- DEC SP (R311). -/
def exec_dec_SP (s : State) : Out := decPair16 0x3B .sp s

/-- ADD SP,e8 (R313). -/
def exec_add_SP_e8 (e : Byte) (s : State) : Out := addSPe8 0xE8 e s

end Sys2Proof.Machine
end

