-- ==== Sys2Proof/Machine/Alu8.lean ====
section
/-! DEFINITION. The meanings of the 8-bit arithmetic and logic (42_alu8.md). A meaning starts where its rule's pseudocode starts: PC is
the address of the opcode byte plus 1 (log entry 3). The shared operations come first, then one definition per instruction. -/

namespace Sys2Proof.Machine

/-- `A <- A op s` with its four flags (R272..R280); the carry-in is C. The d8 form reads its byte first (R271). -/
def aluA (op : Byte) (k : AluOp) (src : AluSrc) (s : State) : Out :=
  let r := aluCompute k s.a (s.aluSrc src) (s.flag .c)
  finish op false (({ s.consume (aluSrcBytes src) with a := r.value } : State).setFlags r.flags)

/-- `x[r] <- x[r] + 1` (R281). -/
def incReg8 (op : Byte) (r : Reg) (s : State) : Out := finish op false ((s.setReg r (s.reg r + 1)).incFlags (s.reg r))

/-- `x[r] <- x[r] - 1` (R283). -/
def decReg8 (op : Byte) (r : Reg) (s : State) : Out := finish op false ((s.setReg r (s.reg r - 1)).decFlags (s.reg r))

/-- The byte at HL, plus 1; the flags are written only after the write (R282). -/
def incAtHL (op : Byte) (s : State) : Out :=
  andThen (writeByte s.hl (s.readByte s.hl + 1) s) fun t => finish op false (t.incFlags (s.readByte s.hl))

/-- The byte at HL, minus 1 (R284). -/
def decAtHL (op : Byte) (s : State) : Out :=
  andThen (writeByte s.hl (s.readByte s.hl - 1) s) fun t => finish op false (t.decFlags (s.readByte s.hl))

/-- INC B (R281). -/
def exec_inc_B (s : State) : Out := incReg8 0x04 .b s

/-- DEC B (R283). -/
def exec_dec_B (s : State) : Out := decReg8 0x05 .b s

/-- INC C (R281). -/
def exec_inc_C (s : State) : Out := incReg8 0x0C .c s

/-- DEC C (R283). -/
def exec_dec_C (s : State) : Out := decReg8 0x0D .c s

/-- INC D (R281). -/
def exec_inc_D (s : State) : Out := incReg8 0x14 .d s

/-- DEC D (R283). -/
def exec_dec_D (s : State) : Out := decReg8 0x15 .d s

/-- INC E (R281). -/
def exec_inc_E (s : State) : Out := incReg8 0x1C .e s

/-- DEC E (R283). -/
def exec_dec_E (s : State) : Out := decReg8 0x1D .e s

/-- INC H (R281). -/
def exec_inc_H (s : State) : Out := incReg8 0x24 .h s

/-- DEC H (R283). -/
def exec_dec_H (s : State) : Out := decReg8 0x25 .h s

/-- INC L (R281). -/
def exec_inc_L (s : State) : Out := incReg8 0x2C .l s

/-- DEC L (R283). -/
def exec_dec_L (s : State) : Out := decReg8 0x2D .l s

/-- INC (HL) (R282). -/
def exec_inc_atHL (s : State) : Out := incAtHL 0x34 s

/-- DEC (HL) (R284). -/
def exec_dec_atHL (s : State) : Out := decAtHL 0x35 s

/-- INC A (R281). -/
def exec_inc_A (s : State) : Out := incReg8 0x3C .a s

/-- DEC A (R283). -/
def exec_dec_A (s : State) : Out := decReg8 0x3D .a s

/-- ADD A,B (R272). -/
def exec_add_A_B (s : State) : Out := aluA 0x80 .add (.reg .b) s

/-- ADD A,C (R272). -/
def exec_add_A_C (s : State) : Out := aluA 0x81 .add (.reg .c) s

/-- ADD A,D (R272). -/
def exec_add_A_D (s : State) : Out := aluA 0x82 .add (.reg .d) s

/-- ADD A,E (R272). -/
def exec_add_A_E (s : State) : Out := aluA 0x83 .add (.reg .e) s

/-- ADD A,H (R272). -/
def exec_add_A_H (s : State) : Out := aluA 0x84 .add (.reg .h) s

/-- ADD A,L (R272). -/
def exec_add_A_L (s : State) : Out := aluA 0x85 .add (.reg .l) s

/-- ADD A,(HL) (R272). -/
def exec_add_A_atHL (s : State) : Out := aluA 0x86 .add .atHL s

/-- ADD A,A (R272). -/
def exec_add_A_A (s : State) : Out := aluA 0x87 .add (.reg .a) s

/-- ADC A,B (R274). -/
def exec_adc_A_B (s : State) : Out := aluA 0x88 .adc (.reg .b) s

/-- ADC A,C (R274). -/
def exec_adc_A_C (s : State) : Out := aluA 0x89 .adc (.reg .c) s

/-- ADC A,D (R274). -/
def exec_adc_A_D (s : State) : Out := aluA 0x8A .adc (.reg .d) s

/-- ADC A,E (R274). -/
def exec_adc_A_E (s : State) : Out := aluA 0x8B .adc (.reg .e) s

/-- ADC A,H (R274). -/
def exec_adc_A_H (s : State) : Out := aluA 0x8C .adc (.reg .h) s

/-- ADC A,L (R274). -/
def exec_adc_A_L (s : State) : Out := aluA 0x8D .adc (.reg .l) s

/-- ADC A,(HL) (R274). -/
def exec_adc_A_atHL (s : State) : Out := aluA 0x8E .adc .atHL s

/-- ADC A,A (R274). -/
def exec_adc_A_A (s : State) : Out := aluA 0x8F .adc (.reg .a) s

/-- SUB B (R275). -/
def exec_sub_B (s : State) : Out := aluA 0x90 .sub (.reg .b) s

/-- SUB C (R275). -/
def exec_sub_C (s : State) : Out := aluA 0x91 .sub (.reg .c) s

/-- SUB D (R275). -/
def exec_sub_D (s : State) : Out := aluA 0x92 .sub (.reg .d) s

/-- SUB E (R275). -/
def exec_sub_E (s : State) : Out := aluA 0x93 .sub (.reg .e) s

/-- SUB H (R275). -/
def exec_sub_H (s : State) : Out := aluA 0x94 .sub (.reg .h) s

/-- SUB L (R275). -/
def exec_sub_L (s : State) : Out := aluA 0x95 .sub (.reg .l) s

/-- SUB (HL) (R275). -/
def exec_sub_atHL (s : State) : Out := aluA 0x96 .sub .atHL s

/-- SUB A (R275). -/
def exec_sub_A (s : State) : Out := aluA 0x97 .sub (.reg .a) s

/-- SBC A,B (R276). -/
def exec_sbc_A_B (s : State) : Out := aluA 0x98 .sbc (.reg .b) s

/-- SBC A,C (R276). -/
def exec_sbc_A_C (s : State) : Out := aluA 0x99 .sbc (.reg .c) s

/-- SBC A,D (R276). -/
def exec_sbc_A_D (s : State) : Out := aluA 0x9A .sbc (.reg .d) s

/-- SBC A,E (R276). -/
def exec_sbc_A_E (s : State) : Out := aluA 0x9B .sbc (.reg .e) s

/-- SBC A,H (R276). -/
def exec_sbc_A_H (s : State) : Out := aluA 0x9C .sbc (.reg .h) s

/-- SBC A,L (R276). -/
def exec_sbc_A_L (s : State) : Out := aluA 0x9D .sbc (.reg .l) s

/-- SBC A,(HL) (R276). -/
def exec_sbc_A_atHL (s : State) : Out := aluA 0x9E .sbc .atHL s

/-- SBC A,A (R276). -/
def exec_sbc_A_A (s : State) : Out := aluA 0x9F .sbc (.reg .a) s

/-- AND B (R277). -/
def exec_and_B (s : State) : Out := aluA 0xA0 .and (.reg .b) s

/-- AND C (R277). -/
def exec_and_C (s : State) : Out := aluA 0xA1 .and (.reg .c) s

/-- AND D (R277). -/
def exec_and_D (s : State) : Out := aluA 0xA2 .and (.reg .d) s

/-- AND E (R277). -/
def exec_and_E (s : State) : Out := aluA 0xA3 .and (.reg .e) s

/-- AND H (R277). -/
def exec_and_H (s : State) : Out := aluA 0xA4 .and (.reg .h) s

/-- AND L (R277). -/
def exec_and_L (s : State) : Out := aluA 0xA5 .and (.reg .l) s

/-- AND (HL) (R277). -/
def exec_and_atHL (s : State) : Out := aluA 0xA6 .and .atHL s

/-- AND A (R277). -/
def exec_and_A (s : State) : Out := aluA 0xA7 .and (.reg .a) s

/-- XOR B (R278). -/
def exec_xor_B (s : State) : Out := aluA 0xA8 .xor (.reg .b) s

/-- XOR C (R278). -/
def exec_xor_C (s : State) : Out := aluA 0xA9 .xor (.reg .c) s

/-- XOR D (R278). -/
def exec_xor_D (s : State) : Out := aluA 0xAA .xor (.reg .d) s

/-- XOR E (R278). -/
def exec_xor_E (s : State) : Out := aluA 0xAB .xor (.reg .e) s

/-- XOR H (R278). -/
def exec_xor_H (s : State) : Out := aluA 0xAC .xor (.reg .h) s

/-- XOR L (R278). -/
def exec_xor_L (s : State) : Out := aluA 0xAD .xor (.reg .l) s

/-- XOR (HL) (R278). -/
def exec_xor_atHL (s : State) : Out := aluA 0xAE .xor .atHL s

/-- XOR A (R278). -/
def exec_xor_A (s : State) : Out := aluA 0xAF .xor (.reg .a) s

/-- OR B (R279). -/
def exec_or_B (s : State) : Out := aluA 0xB0 .or (.reg .b) s

/-- OR C (R279). -/
def exec_or_C (s : State) : Out := aluA 0xB1 .or (.reg .c) s

/-- OR D (R279). -/
def exec_or_D (s : State) : Out := aluA 0xB2 .or (.reg .d) s

/-- OR E (R279). -/
def exec_or_E (s : State) : Out := aluA 0xB3 .or (.reg .e) s

/-- OR H (R279). -/
def exec_or_H (s : State) : Out := aluA 0xB4 .or (.reg .h) s

/-- OR L (R279). -/
def exec_or_L (s : State) : Out := aluA 0xB5 .or (.reg .l) s

/-- OR (HL) (R279). -/
def exec_or_atHL (s : State) : Out := aluA 0xB6 .or .atHL s

/-- OR A (R279). -/
def exec_or_A (s : State) : Out := aluA 0xB7 .or (.reg .a) s

/-- CP B (R280). -/
def exec_cp_B (s : State) : Out := aluA 0xB8 .cp (.reg .b) s

/-- CP C (R280). -/
def exec_cp_C (s : State) : Out := aluA 0xB9 .cp (.reg .c) s

/-- CP D (R280). -/
def exec_cp_D (s : State) : Out := aluA 0xBA .cp (.reg .d) s

/-- CP E (R280). -/
def exec_cp_E (s : State) : Out := aluA 0xBB .cp (.reg .e) s

/-- CP H (R280). -/
def exec_cp_H (s : State) : Out := aluA 0xBC .cp (.reg .h) s

/-- CP L (R280). -/
def exec_cp_L (s : State) : Out := aluA 0xBD .cp (.reg .l) s

/-- CP (HL) (R280). -/
def exec_cp_atHL (s : State) : Out := aluA 0xBE .cp .atHL s

/-- CP A (R280). -/
def exec_cp_A (s : State) : Out := aluA 0xBF .cp (.reg .a) s

/-- ADD A,d8 (R272). -/
def exec_add_A_d8 (n : Byte) (s : State) : Out := aluA 0xC6 .add (.d8 n) s

/-- ADC A,d8 (R274). -/
def exec_adc_A_d8 (n : Byte) (s : State) : Out := aluA 0xCE .adc (.d8 n) s

/-- SUB d8 (R275). -/
def exec_sub_d8 (n : Byte) (s : State) : Out := aluA 0xD6 .sub (.d8 n) s

/-- SBC A,d8 (R276). -/
def exec_sbc_A_d8 (n : Byte) (s : State) : Out := aluA 0xDE .sbc (.d8 n) s

/-- AND d8 (R277). -/
def exec_and_d8 (n : Byte) (s : State) : Out := aluA 0xE6 .and (.d8 n) s

/-- XOR d8 (R278). -/
def exec_xor_d8 (n : Byte) (s : State) : Out := aluA 0xEE .xor (.d8 n) s

/-- OR d8 (R279). -/
def exec_or_d8 (n : Byte) (s : State) : Out := aluA 0xF6 .or (.d8 n) s

/-- CP d8 (R280). -/
def exec_cp_d8 (n : Byte) (s : State) : Out := aluA 0xFE .cp (.d8 n) s

end Sys2Proof.Machine
end

