-- ==== Sys2Proof/Machine/Control.lean ====
section
/-! DEFINITION. The meanings of the control transfer (45_control.md). A meaning starts where its rule's pseudocode starts: PC is
the address of the opcode byte plus 1 (log entry 3). The shared operations come first, then one definition per instruction. -/

namespace Sys2Proof.Machine

/-- `e <- Imm8(); PC <- PC + sext_16(e)` (R360, R361). -/
def jumpRelative (op : Byte) (e : Byte) (s : State) : Out :=
  finish op false { s.consume 1 with pc := jumpTarget (s.consume 1).pc e }

/-- The same if the condition holds; the operand is passed either way (R362). -/
def jumpRelativeIf (op : Byte) (cc : Cond) (e : Byte) (s : State) : Out :=
  if s.cond cc then finish op true { s.consume 1 with pc := jumpTarget (s.consume 1).pc e }
  else finish op false (s.consume 1)

/-- `a <- Imm16(); if taken: PC <- a` (R364). -/
def jumpIf (op : Byte) (cc : Cond) (a : Word) (s : State) : Out :=
  if s.cond cc then finish op true { s.consume 2 with pc := a } else finish op false (s.consume 2)

/-- `Push16(PC); PC <- target`, with PC past the instruction (R366, R372). -/
def callTo (op : Byte) (taken : Bool) (target : Word) (s : State) : Out :=
  andThen (push16 s.pc s) fun s => finish op taken { s with pc := target }

/-- `a <- Imm16(); if taken: Push16(PC); PC <- a` (R367). -/
def callIf (op : Byte) (cc : Cond) (a : Word) (s : State) : Out :=
  if s.cond cc then callTo op true a (s.consume 2) else finish op false (s.consume 2)

/-- `PC <- Pop16()` (R368). -/
def returnFrom (op : Byte) (taken : Bool) (s : State) : Out := finish op taken { s.dropTop with pc := s.stackTop }

/-- `if taken: PC <- Pop16()` (R369). -/
def returnIf (op : Byte) (cc : Cond) (s : State) : Out :=
  if s.cond cc then returnFrom op true s else finish op false s

/-- JR e8 (R361). -/
def exec_jr_e8 (e : Byte) (s : State) : Out := jumpRelative 0x18 e s

/-- JR NZ,e8 (R362). -/
def exec_jr_NZ_e8 (e : Byte) (s : State) : Out := jumpRelativeIf 0x20 .nz e s

/-- JR Z,e8 (R362). -/
def exec_jr_Z_e8 (e : Byte) (s : State) : Out := jumpRelativeIf 0x28 .z e s

/-- JR NC,e8 (R362). -/
def exec_jr_NC_e8 (e : Byte) (s : State) : Out := jumpRelativeIf 0x30 .nc e s

/-- JR C,e8 (R362). -/
def exec_jr_C_e8 (e : Byte) (s : State) : Out := jumpRelativeIf 0x38 .c e s

/-- RET NZ (R369). -/
def exec_ret_NZ (s : State) : Out := returnIf 0xC0 .nz s

/-- JP NZ,a16 (R364). -/
def exec_jp_NZ_a16 (a : Word) (s : State) : Out := jumpIf 0xC2 .nz a s

/-- JP a16 (R363). -/
def exec_jp_a16 (a : Word) (s : State) : Out := finish 0xC3 false { s.consume 2 with pc := a }

/-- CALL NZ,a16 (R367). -/
def exec_call_NZ_a16 (a : Word) (s : State) : Out := callIf 0xC4 .nz a s

/-- RST 0x00 (R372). -/
def exec_rst_00 (s : State) : Out := callTo 0xC7 false (rstTarget 0) s

/-- RET Z (R369). -/
def exec_ret_Z (s : State) : Out := returnIf 0xC8 .z s

/-- RET (R368). -/
def exec_ret (s : State) : Out := returnFrom 0xC9 false s

/-- JP Z,a16 (R364). -/
def exec_jp_Z_a16 (a : Word) (s : State) : Out := jumpIf 0xCA .z a s

/-- CALL Z,a16 (R367). -/
def exec_call_Z_a16 (a : Word) (s : State) : Out := callIf 0xCC .z a s

/-- CALL a16 (R366). -/
def exec_call_a16 (a : Word) (s : State) : Out := callTo 0xCD false a (s.consume 2)

/-- RST 0x08 (R372). -/
def exec_rst_08 (s : State) : Out := callTo 0xCF false (rstTarget 1) s

/-- RET NC (R369). -/
def exec_ret_NC (s : State) : Out := returnIf 0xD0 .nc s

/-- JP NC,a16 (R364). -/
def exec_jp_NC_a16 (a : Word) (s : State) : Out := jumpIf 0xD2 .nc a s

/-- CALL NC,a16 (R367). -/
def exec_call_NC_a16 (a : Word) (s : State) : Out := callIf 0xD4 .nc a s

/-- RST 0x10 (R372). -/
def exec_rst_10 (s : State) : Out := callTo 0xD7 false (rstTarget 2) s

/-- RET C (R369). -/
def exec_ret_C (s : State) : Out := returnIf 0xD8 .c s

/-- RETI (R370). -/
def exec_reti (s : State) : Out := finish 0xD9 false (returnFromInterrupt s)

/-- JP C,a16 (R364). -/
def exec_jp_C_a16 (a : Word) (s : State) : Out := jumpIf 0xDA .c a s

/-- CALL C,a16 (R367). -/
def exec_call_C_a16 (a : Word) (s : State) : Out := callIf 0xDC .c a s

/-- RST 0x18 (R372). -/
def exec_rst_18 (s : State) : Out := callTo 0xDF false (rstTarget 3) s

/-- RST 0x20 (R372). -/
def exec_rst_20 (s : State) : Out := callTo 0xE7 false (rstTarget 4) s

/-- JP HL (R365). -/
def exec_jp_HL (s : State) : Out := finish 0xE9 false { s with pc := s.hl }

/-- RST 0x28 (R372). -/
def exec_rst_28 (s : State) : Out := callTo 0xEF false (rstTarget 5) s

/-- RST 0x30 (R372). -/
def exec_rst_30 (s : State) : Out := callTo 0xF7 false (rstTarget 6) s

/-- RST 0x38 (R372). -/
def exec_rst_38 (s : State) : Out := callTo 0xFF false (rstTarget 7) s

end Sys2Proof.Machine
end

