-- ==== Sys2Proof/Machine/Load16.lean ====
section
/-! DEFINITION. The meanings of the 16-bit loads and the stack (41_load16.md). A meaning starts where its rule's pseudocode starts: PC is
the address of the opcode byte plus 1 (log entry 3). The shared operations come first, then one definition per instruction. -/

namespace Sys2Proof.Machine

/-- `v <- Imm16(); rp[p] <- v` (R240). -/
def ldPairImm (op : Byte) (p : Pair) (v : Word) (s : State) : Out := finish op false ((s.consume 2).setPair p v)

/-- `a <- Imm16(); MemWrite(a, 2, SP)` (R241). -/
def storeSP (op : Byte) (a : Word) (s : State) : Out := andThen (writeShort a s.sp (s.consume 2)) (finish op false)

/-- `SP <- HL` (R242). -/
def ldSPHL (op : Byte) (s : State) : Out := finish op false { s with sp := s.hl }

/-- `HL <- SP + e`, with the flags of `SpPlusE8` (R243, R244). -/
def ldHLSPe8 (op : Byte) (e : Byte) (s : State) : Out :=
  finish op false
    (((s.consume 1).setHL (spPlusE8 s.sp e)).setFlags
      { z := false, n := false, h := spHalfCarry s.sp e, c := spCarry s.sp e })

/-- `Push16(rp2[p])` (R250). -/
def pushPair (op : Byte) (p : StackPair) (s : State) : Out := andThen (push16 (s.stackPair p) s) (finish op false)

/-- `rp2[p] <- Pop16()`; AF through the flags (R251). -/
def popPair (op : Byte) (p : StackPair) (s : State) : Out := finish op false (s.dropTop.setStackPair p s.stackTop)

/-- LD BC,d16 (R240). -/
def exec_ld_BC_d16 (v : Word) (s : State) : Out := ldPairImm 0x01 .bc v s

/-- LD (a16),SP (R241). -/
def exec_ld_atA16_SP (a : Word) (s : State) : Out := storeSP 0x08 a s

/-- LD DE,d16 (R240). -/
def exec_ld_DE_d16 (v : Word) (s : State) : Out := ldPairImm 0x11 .de v s

/-- LD HL,d16 (R240). -/
def exec_ld_HL_d16 (v : Word) (s : State) : Out := ldPairImm 0x21 .hl v s

/-- LD SP,d16 (R240). -/
def exec_ld_SP_d16 (v : Word) (s : State) : Out := ldPairImm 0x31 .sp v s

/-- POP BC (R251). -/
def exec_pop_BC (s : State) : Out := popPair 0xC1 .bc s

/-- PUSH BC (R250). -/
def exec_push_BC (s : State) : Out := pushPair 0xC5 .bc s

/-- POP DE (R251). -/
def exec_pop_DE (s : State) : Out := popPair 0xD1 .de s

/-- PUSH DE (R250). -/
def exec_push_DE (s : State) : Out := pushPair 0xD5 .de s

/-- POP HL (R251). -/
def exec_pop_HL (s : State) : Out := popPair 0xE1 .hl s

/-- PUSH HL (R250). -/
def exec_push_HL (s : State) : Out := pushPair 0xE5 .hl s

/-- POP AF (R251). -/
def exec_pop_AF (s : State) : Out := popPair 0xF1 .af s

/-- PUSH AF (R250). -/
def exec_push_AF (s : State) : Out := pushPair 0xF5 .af s

/-- LD HL,SP+e8 (R243). -/
def exec_ld_HL_SPe8 (e : Byte) (s : State) : Out := ldHLSPe8 0xF8 e s

/-- LD SP,HL (R242). -/
def exec_ld_SP_HL (s : State) : Out := ldSPHL 0xF9 s

end Sys2Proof.Machine
end

