-- ==== Sys2Proof/Machine/Load8.lean ====
section
/-! DEFINITION. The meanings of the 8-bit loads and stores (40_load8.md). A meaning starts where its rule's pseudocode starts: PC is
the address of the opcode byte plus 1 (log entry 3). The shared operations come first, then one definition per instruction. -/

namespace Sys2Proof.Machine

/-- `x[dst] <- x[src]` (R200). -/
def ldRegReg (op : Byte) (dst src : Reg) (s : State) : Out := finish op false (s.setReg dst (s.reg src))

/-- `n <- Imm8(); x[dst] <- n` (R201). -/
def ldRegImm (op : Byte) (dst : Reg) (n : Byte) (s : State) : Out := finish op false ((s.consume 1).setReg dst n)

/-- `x[dst] <- MemRead(addr, 1)`: the loads of R202, R205, R206, R214, R221, R223. -/
def loadReg (op : Byte) (dst : Reg) (addr : Word) (s : State) : Out := finish op false (s.setReg dst (s.readByte addr))

/-- `MemWrite(addr, 1, v)`: the stores of R203, R204, R207, R208, R213, R220, R222. -/
def store (op : Byte) (addr : Word) (v : Byte) (s : State) : Out := andThen (writeByte addr v s) (finish op false)

/-- `MemWrite(HL, 1, A); HL <- HL + step` (R209, R211): HL is stepped only after the write. -/
def storeThenHL (op : Byte) (step : Word) (s : State) : Out :=
  andThen (writeByte s.hl s.a s) fun s => finish op false (s.setHL (s.hl + step))

/-- `A <- MemRead(HL, 1); HL <- HL + step` (R210, R212). -/
def loadThenHL (op : Byte) (step : Word) (s : State) : Out :=
  finish op false ((s.setReg .a (s.readByte s.hl)).setHL (s.hl + step))

/-- LD (BC),A (R207). -/
def exec_ld_atBC_A (s : State) : Out := store 0x02 s.bc s.a s

/-- LD B,d8 (R201). -/
def exec_ld_B_d8 (n : Byte) (s : State) : Out := ldRegImm 0x06 .b n s

/-- LD A,(BC) (R205). -/
def exec_ld_A_atBC (s : State) : Out := loadReg 0x0A .a s.bc s

/-- LD C,d8 (R201). -/
def exec_ld_C_d8 (n : Byte) (s : State) : Out := ldRegImm 0x0E .c n s

/-- LD (DE),A (R208). -/
def exec_ld_atDE_A (s : State) : Out := store 0x12 s.de s.a s

/-- LD D,d8 (R201). -/
def exec_ld_D_d8 (n : Byte) (s : State) : Out := ldRegImm 0x16 .d n s

/-- LD A,(DE) (R206). -/
def exec_ld_A_atDE (s : State) : Out := loadReg 0x1A .a s.de s

/-- LD E,d8 (R201). -/
def exec_ld_E_d8 (n : Byte) (s : State) : Out := ldRegImm 0x1E .e n s

/-- LD (HL+),A (R209). -/
def exec_ld_atHLinc_A (s : State) : Out := storeThenHL 0x22 1 s

/-- LD H,d8 (R201). -/
def exec_ld_H_d8 (n : Byte) (s : State) : Out := ldRegImm 0x26 .h n s

/-- LD A,(HL+) (R210). -/
def exec_ld_A_atHLinc (s : State) : Out := loadThenHL 0x2A 1 s

/-- LD L,d8 (R201). -/
def exec_ld_L_d8 (n : Byte) (s : State) : Out := ldRegImm 0x2E .l n s

/-- LD (HL-),A (R211). -/
def exec_ld_atHLdec_A (s : State) : Out := storeThenHL 0x32 (-1) s

/-- LD (HL),d8 (R204). -/
def exec_ld_atHL_d8 (n : Byte) (s : State) : Out := store 0x36 s.hl n (s.consume 1)

/-- LD A,(HL-) (R212). -/
def exec_ld_A_atHLdec (s : State) : Out := loadThenHL 0x3A (-1) s

/-- LD A,d8 (R201). -/
def exec_ld_A_d8 (n : Byte) (s : State) : Out := ldRegImm 0x3E .a n s

/-- LD B,B (R200). -/
def exec_ld_B_B (s : State) : Out := ldRegReg 0x40 .b .b s

/-- LD B,C (R200). -/
def exec_ld_B_C (s : State) : Out := ldRegReg 0x41 .b .c s

/-- LD B,D (R200). -/
def exec_ld_B_D (s : State) : Out := ldRegReg 0x42 .b .d s

/-- LD B,E (R200). -/
def exec_ld_B_E (s : State) : Out := ldRegReg 0x43 .b .e s

/-- LD B,H (R200). -/
def exec_ld_B_H (s : State) : Out := ldRegReg 0x44 .b .h s

/-- LD B,L (R200). -/
def exec_ld_B_L (s : State) : Out := ldRegReg 0x45 .b .l s

/-- LD B,(HL) (R202). -/
def exec_ld_B_atHL (s : State) : Out := loadReg 0x46 .b s.hl s

/-- LD B,A (R200). -/
def exec_ld_B_A (s : State) : Out := ldRegReg 0x47 .b .a s

/-- LD C,B (R200). -/
def exec_ld_C_B (s : State) : Out := ldRegReg 0x48 .c .b s

/-- LD C,C (R200). -/
def exec_ld_C_C (s : State) : Out := ldRegReg 0x49 .c .c s

/-- LD C,D (R200). -/
def exec_ld_C_D (s : State) : Out := ldRegReg 0x4A .c .d s

/-- LD C,E (R200). -/
def exec_ld_C_E (s : State) : Out := ldRegReg 0x4B .c .e s

/-- LD C,H (R200). -/
def exec_ld_C_H (s : State) : Out := ldRegReg 0x4C .c .h s

/-- LD C,L (R200). -/
def exec_ld_C_L (s : State) : Out := ldRegReg 0x4D .c .l s

/-- LD C,(HL) (R202). -/
def exec_ld_C_atHL (s : State) : Out := loadReg 0x4E .c s.hl s

/-- LD C,A (R200). -/
def exec_ld_C_A (s : State) : Out := ldRegReg 0x4F .c .a s

/-- LD D,B (R200). -/
def exec_ld_D_B (s : State) : Out := ldRegReg 0x50 .d .b s

/-- LD D,C (R200). -/
def exec_ld_D_C (s : State) : Out := ldRegReg 0x51 .d .c s

/-- LD D,D (R200). -/
def exec_ld_D_D (s : State) : Out := ldRegReg 0x52 .d .d s

/-- LD D,E (R200). -/
def exec_ld_D_E (s : State) : Out := ldRegReg 0x53 .d .e s

/-- LD D,H (R200). -/
def exec_ld_D_H (s : State) : Out := ldRegReg 0x54 .d .h s

/-- LD D,L (R200). -/
def exec_ld_D_L (s : State) : Out := ldRegReg 0x55 .d .l s

/-- LD D,(HL) (R202). -/
def exec_ld_D_atHL (s : State) : Out := loadReg 0x56 .d s.hl s

/-- LD D,A (R200). -/
def exec_ld_D_A (s : State) : Out := ldRegReg 0x57 .d .a s

/-- LD E,B (R200). -/
def exec_ld_E_B (s : State) : Out := ldRegReg 0x58 .e .b s

/-- LD E,C (R200). -/
def exec_ld_E_C (s : State) : Out := ldRegReg 0x59 .e .c s

/-- LD E,D (R200). -/
def exec_ld_E_D (s : State) : Out := ldRegReg 0x5A .e .d s

/-- LD E,E (R200). -/
def exec_ld_E_E (s : State) : Out := ldRegReg 0x5B .e .e s

/-- LD E,H (R200). -/
def exec_ld_E_H (s : State) : Out := ldRegReg 0x5C .e .h s

/-- LD E,L (R200). -/
def exec_ld_E_L (s : State) : Out := ldRegReg 0x5D .e .l s

/-- LD E,(HL) (R202). -/
def exec_ld_E_atHL (s : State) : Out := loadReg 0x5E .e s.hl s

/-- LD E,A (R200). -/
def exec_ld_E_A (s : State) : Out := ldRegReg 0x5F .e .a s

/-- LD H,B (R200). -/
def exec_ld_H_B (s : State) : Out := ldRegReg 0x60 .h .b s

/-- LD H,C (R200). -/
def exec_ld_H_C (s : State) : Out := ldRegReg 0x61 .h .c s

/-- LD H,D (R200). -/
def exec_ld_H_D (s : State) : Out := ldRegReg 0x62 .h .d s

/-- LD H,E (R200). -/
def exec_ld_H_E (s : State) : Out := ldRegReg 0x63 .h .e s

/-- LD H,H (R200). -/
def exec_ld_H_H (s : State) : Out := ldRegReg 0x64 .h .h s

/-- LD H,L (R200). -/
def exec_ld_H_L (s : State) : Out := ldRegReg 0x65 .h .l s

/-- LD H,(HL) (R202). -/
def exec_ld_H_atHL (s : State) : Out := loadReg 0x66 .h s.hl s

/-- LD H,A (R200). -/
def exec_ld_H_A (s : State) : Out := ldRegReg 0x67 .h .a s

/-- LD L,B (R200). -/
def exec_ld_L_B (s : State) : Out := ldRegReg 0x68 .l .b s

/-- LD L,C (R200). -/
def exec_ld_L_C (s : State) : Out := ldRegReg 0x69 .l .c s

/-- LD L,D (R200). -/
def exec_ld_L_D (s : State) : Out := ldRegReg 0x6A .l .d s

/-- LD L,E (R200). -/
def exec_ld_L_E (s : State) : Out := ldRegReg 0x6B .l .e s

/-- LD L,H (R200). -/
def exec_ld_L_H (s : State) : Out := ldRegReg 0x6C .l .h s

/-- LD L,L (R200). -/
def exec_ld_L_L (s : State) : Out := ldRegReg 0x6D .l .l s

/-- LD L,(HL) (R202). -/
def exec_ld_L_atHL (s : State) : Out := loadReg 0x6E .l s.hl s

/-- LD L,A (R200). -/
def exec_ld_L_A (s : State) : Out := ldRegReg 0x6F .l .a s

/-- LD (HL),B (R203). -/
def exec_ld_atHL_B (s : State) : Out := store 0x70 s.hl (s.reg .b) s

/-- LD (HL),C (R203). -/
def exec_ld_atHL_C (s : State) : Out := store 0x71 s.hl (s.reg .c) s

/-- LD (HL),D (R203). -/
def exec_ld_atHL_D (s : State) : Out := store 0x72 s.hl (s.reg .d) s

/-- LD (HL),E (R203). -/
def exec_ld_atHL_E (s : State) : Out := store 0x73 s.hl (s.reg .e) s

/-- LD (HL),H (R203). -/
def exec_ld_atHL_H (s : State) : Out := store 0x74 s.hl (s.reg .h) s

/-- LD (HL),L (R203). -/
def exec_ld_atHL_L (s : State) : Out := store 0x75 s.hl (s.reg .l) s

/-- LD (HL),A (R203). -/
def exec_ld_atHL_A (s : State) : Out := store 0x77 s.hl (s.reg .a) s

/-- LD A,B (R200). -/
def exec_ld_A_B (s : State) : Out := ldRegReg 0x78 .a .b s

/-- LD A,C (R200). -/
def exec_ld_A_C (s : State) : Out := ldRegReg 0x79 .a .c s

/-- LD A,D (R200). -/
def exec_ld_A_D (s : State) : Out := ldRegReg 0x7A .a .d s

/-- LD A,E (R200). -/
def exec_ld_A_E (s : State) : Out := ldRegReg 0x7B .a .e s

/-- LD A,H (R200). -/
def exec_ld_A_H (s : State) : Out := ldRegReg 0x7C .a .h s

/-- LD A,L (R200). -/
def exec_ld_A_L (s : State) : Out := ldRegReg 0x7D .a .l s

/-- LD A,(HL) (R202). -/
def exec_ld_A_atHL (s : State) : Out := loadReg 0x7E .a s.hl s

/-- LD A,A (R200). -/
def exec_ld_A_A (s : State) : Out := ldRegReg 0x7F .a .a s

/-- LDH (a8),A (R220). -/
def exec_ldh_atA8_A (n : Byte) (s : State) : Out := store 0xE0 (highPage n) s.a (s.consume 1)

/-- LD (C),A (R222). -/
def exec_ld_atC_A (s : State) : Out := store 0xE2 (highPage s.c) s.a s

/-- LD (a16),A (R213). -/
def exec_ld_atA16_A (a : Word) (s : State) : Out := store 0xEA a s.a (s.consume 2)

/-- LDH A,(a8) (R221). -/
def exec_ldh_A_atA8 (n : Byte) (s : State) : Out := loadReg 0xF0 .a (highPage n) (s.consume 1)

/-- LD A,(C) (R223). -/
def exec_ld_A_atC (s : State) : Out := loadReg 0xF2 .a (highPage s.c) s

/-- LD A,(a16) (R214). -/
def exec_ld_A_atA16 (a : Word) (s : State) : Out := loadReg 0xFA .a a (s.consume 2)

end Sys2Proof.Machine
end

