-- ==== Sys2Proof/Machine/RotateMisc.lean ====
section
/-! DEFINITION. The meanings of the accumulator rotates, decimal adjust and flag operations (44_rotate_misc.md). A meaning starts where its rule's pseudocode starts: PC is
the address of the opcode byte plus 1 (log entry 3). The shared operations come first, then one definition per instruction. -/

namespace Sys2Proof.Machine

/-- A rotate: A becomes `v`, C becomes `out`, and Z, N, H are cleared (R330..R333). -/
def rotateA (op : Byte) (v : Byte) (out : Bool) (s : State) : Out :=
  finish op false (({ s with a := v } : State).setFlags { z := false, n := false, h := false, c := out })

/-- DAA: Z, H, C written, N kept (R334). -/
def daaA (op : Byte) (s : State) : Out :=
  let v := daaValue s.a (s.flag .n) (s.flag .h) (s.flag .c)
  finish op false
    (((({ s with a := v } : State).setFlag .z (v == 0)).setFlag .h false).setFlag .c
      (daaCarry s.a (s.flag .n) (s.flag .c)))

/-- RLCA (R330). -/
def exec_rlca (s : State) : Out := rotateA 0x07 (rotateLeft s.a (s.a.getLsbD 7)) (s.a.getLsbD 7) s

/-- RRCA (R331). -/
def exec_rrca (s : State) : Out := rotateA 0x0F (rotateRight s.a (s.a.getLsbD 0)) (s.a.getLsbD 0) s

/-- RLA (R332). -/
def exec_rla (s : State) : Out := rotateA 0x17 (rotateLeft s.a (s.flag .c)) (s.a.getLsbD 7) s

/-- RRA (R333). -/
def exec_rra (s : State) : Out := rotateA 0x1F (rotateRight s.a (s.flag .c)) (s.a.getLsbD 0) s

/-- DAA (R334). -/
def exec_daa (s : State) : Out := daaA 0x27 s

/-- CPL (R335). -/
def exec_cpl (s : State) : Out :=
  finish 0x2F false ((({ s with a := ~~~s.a } : State).setFlag .n true).setFlag .h true)

/-- SCF (R336). -/
def exec_scf (s : State) : Out := finish 0x37 false (((s.setFlag .n false).setFlag .h false).setFlag .c true)

/-- CCF (R337). -/
def exec_ccf (s : State) : Out :=
  finish 0x3F false (((s.setFlag .n false).setFlag .h false).setFlag .c (!s.flag .c))

end Sys2Proof.Machine
end

