-- ==== Sys2Proof/Machine/System.lean ====
section
/-! DEFINITION. The meanings of the system instructions and the unsupported outcome (46_system.md). A meaning starts where its rule's pseudocode starts: PC is
the address of the opcode byte plus 1 (log entry 3). The shared operations come first, then one definition per instruction. -/

namespace Sys2Proof.Machine

/-- The unsupported outcome: the event with the opcode's address (PC is one past it) and the sticky mark, and nothing
else (R404). -/
def unsupported (op : Byte) (s : State) : Out :=
  finish op false { s with log := s.log ++ [{ pc := s.pc - 1, opcode := op }], unsupportedSeen := true }

/-- NOP (R400). -/
def exec_nop (s : State) : Out := finish 0x00 false s

/-- STOP (R402). -/
def exec_stop (_n : Byte) (s : State) : Out := finish 0x10 false { s.consume 1 with stopped := true }

/-- HALT (R401). -/
def exec_halt (s : State) : Out := finish 0x76 false s

/-- The 0xCB prefix (R404). -/
def exec_prefix_CB (s : State) : Out := unsupported 0xCB s

/-- UNSUPPORTED 0xD3 (R404). -/
def exec_unsupported_D3 (s : State) : Out := unsupported 0xD3 s

/-- UNSUPPORTED 0xDB (R404). -/
def exec_unsupported_DB (s : State) : Out := unsupported 0xDB s

/-- UNSUPPORTED 0xDD (R404). -/
def exec_unsupported_DD (s : State) : Out := unsupported 0xDD s

/-- UNSUPPORTED 0xE3 (R404). -/
def exec_unsupported_E3 (s : State) : Out := unsupported 0xE3 s

/-- UNSUPPORTED 0xE4 (R404). -/
def exec_unsupported_E4 (s : State) : Out := unsupported 0xE4 s

/-- UNSUPPORTED 0xEB (R404). -/
def exec_unsupported_EB (s : State) : Out := unsupported 0xEB s

/-- UNSUPPORTED 0xEC (R404). -/
def exec_unsupported_EC (s : State) : Out := unsupported 0xEC s

/-- UNSUPPORTED 0xED (R404). -/
def exec_unsupported_ED (s : State) : Out := unsupported 0xED s

/-- DI (R403). -/
def exec_di (s : State) : Out := finish 0xF3 false { s with ime := false }

/-- UNSUPPORTED 0xF4 (R404). -/
def exec_unsupported_F4 (s : State) : Out := unsupported 0xF4 s

/-- EI (R405). -/
def exec_ei (s : State) : Out := finish 0xFB false { s with ime := true }

/-- UNSUPPORTED 0xFC (R404). -/
def exec_unsupported_FC (s : State) : Out := unsupported 0xFC s

/-- UNSUPPORTED 0xFD (R404). -/
def exec_unsupported_FD (s : State) : Out := unsupported 0xFD s

end Sys2Proof.Machine
end

