-- ==== Sys2Proof/Machine/Dispatch.lean ====
section
/-! DEFINITION. The dispatch: one arm per constructor of `Instr` (30_encoding.md R130). -/

namespace Sys2Proof.Machine

def exec (i : Instr) (s : State) : Host.Outcome State Fault Refusal :=
  match i with
  | .ld_BC_d16 v => Sys2Proof.Machine.exec_ld_BC_d16 v s
  | .ld_B_d8 n => Sys2Proof.Machine.exec_ld_B_d8 n s
  | .ld_atA16_SP a => Sys2Proof.Machine.exec_ld_atA16_SP a s
  | .ld_C_d8 n => Sys2Proof.Machine.exec_ld_C_d8 n s
  | .stop n => Sys2Proof.Machine.exec_stop n s
  | .ld_DE_d16 v => Sys2Proof.Machine.exec_ld_DE_d16 v s
  | .ld_D_d8 n => Sys2Proof.Machine.exec_ld_D_d8 n s
  | .jr_e8 e => Sys2Proof.Machine.exec_jr_e8 e s
  | .ld_E_d8 n => Sys2Proof.Machine.exec_ld_E_d8 n s
  | .jr_NZ_e8 e => Sys2Proof.Machine.exec_jr_NZ_e8 e s
  | .ld_HL_d16 v => Sys2Proof.Machine.exec_ld_HL_d16 v s
  | .ld_H_d8 n => Sys2Proof.Machine.exec_ld_H_d8 n s
  | .jr_Z_e8 e => Sys2Proof.Machine.exec_jr_Z_e8 e s
  | .ld_L_d8 n => Sys2Proof.Machine.exec_ld_L_d8 n s
  | .jr_NC_e8 e => Sys2Proof.Machine.exec_jr_NC_e8 e s
  | .ld_SP_d16 v => Sys2Proof.Machine.exec_ld_SP_d16 v s
  | .ld_atHL_d8 n => Sys2Proof.Machine.exec_ld_atHL_d8 n s
  | .jr_C_e8 e => Sys2Proof.Machine.exec_jr_C_e8 e s
  | .ld_A_d8 n => Sys2Proof.Machine.exec_ld_A_d8 n s
  | .jp_NZ_a16 a => Sys2Proof.Machine.exec_jp_NZ_a16 a s
  | .jp_a16 a => Sys2Proof.Machine.exec_jp_a16 a s
  | .call_NZ_a16 a => Sys2Proof.Machine.exec_call_NZ_a16 a s
  | .add_A_d8 n => Sys2Proof.Machine.exec_add_A_d8 n s
  | .jp_Z_a16 a => Sys2Proof.Machine.exec_jp_Z_a16 a s
  | .call_Z_a16 a => Sys2Proof.Machine.exec_call_Z_a16 a s
  | .call_a16 a => Sys2Proof.Machine.exec_call_a16 a s
  | .adc_A_d8 n => Sys2Proof.Machine.exec_adc_A_d8 n s
  | .jp_NC_a16 a => Sys2Proof.Machine.exec_jp_NC_a16 a s
  | .call_NC_a16 a => Sys2Proof.Machine.exec_call_NC_a16 a s
  | .sub_d8 n => Sys2Proof.Machine.exec_sub_d8 n s
  | .jp_C_a16 a => Sys2Proof.Machine.exec_jp_C_a16 a s
  | .call_C_a16 a => Sys2Proof.Machine.exec_call_C_a16 a s
  | .sbc_A_d8 n => Sys2Proof.Machine.exec_sbc_A_d8 n s
  | .ldh_atA8_A n => Sys2Proof.Machine.exec_ldh_atA8_A n s
  | .and_d8 n => Sys2Proof.Machine.exec_and_d8 n s
  | .add_SP_e8 e => Sys2Proof.Machine.exec_add_SP_e8 e s
  | .ld_atA16_A a => Sys2Proof.Machine.exec_ld_atA16_A a s
  | .xor_d8 n => Sys2Proof.Machine.exec_xor_d8 n s
  | .ldh_A_atA8 n => Sys2Proof.Machine.exec_ldh_A_atA8 n s
  | .or_d8 n => Sys2Proof.Machine.exec_or_d8 n s
  | .ld_HL_SPe8 e => Sys2Proof.Machine.exec_ld_HL_SPe8 e s
  | .ld_A_atA16 a => Sys2Proof.Machine.exec_ld_A_atA16 a s
  | .cp_d8 n => Sys2Proof.Machine.exec_cp_d8 n s
  | .nop => Sys2Proof.Machine.exec_nop s
  | .ld_atBC_A => Sys2Proof.Machine.exec_ld_atBC_A s
  | .inc_BC => Sys2Proof.Machine.exec_inc_BC s
  | .inc_B => Sys2Proof.Machine.exec_inc_B s
  | .dec_B => Sys2Proof.Machine.exec_dec_B s
  | .rlca => Sys2Proof.Machine.exec_rlca s
  | .add_HL_BC => Sys2Proof.Machine.exec_add_HL_BC s
  | .ld_A_atBC => Sys2Proof.Machine.exec_ld_A_atBC s
  | .dec_BC => Sys2Proof.Machine.exec_dec_BC s
  | .inc_C => Sys2Proof.Machine.exec_inc_C s
  | .dec_C => Sys2Proof.Machine.exec_dec_C s
  | .rrca => Sys2Proof.Machine.exec_rrca s
  | .ld_atDE_A => Sys2Proof.Machine.exec_ld_atDE_A s
  | .inc_DE => Sys2Proof.Machine.exec_inc_DE s
  | .inc_D => Sys2Proof.Machine.exec_inc_D s
  | .dec_D => Sys2Proof.Machine.exec_dec_D s
  | .rla => Sys2Proof.Machine.exec_rla s
  | .add_HL_DE => Sys2Proof.Machine.exec_add_HL_DE s
  | .ld_A_atDE => Sys2Proof.Machine.exec_ld_A_atDE s
  | .dec_DE => Sys2Proof.Machine.exec_dec_DE s
  | .inc_E => Sys2Proof.Machine.exec_inc_E s
  | .dec_E => Sys2Proof.Machine.exec_dec_E s
  | .rra => Sys2Proof.Machine.exec_rra s
  | .ld_atHLinc_A => Sys2Proof.Machine.exec_ld_atHLinc_A s
  | .inc_HL => Sys2Proof.Machine.exec_inc_HL s
  | .inc_H => Sys2Proof.Machine.exec_inc_H s
  | .dec_H => Sys2Proof.Machine.exec_dec_H s
  | .daa => Sys2Proof.Machine.exec_daa s
  | .add_HL_HL => Sys2Proof.Machine.exec_add_HL_HL s
  | .ld_A_atHLinc => Sys2Proof.Machine.exec_ld_A_atHLinc s
  | .dec_HL => Sys2Proof.Machine.exec_dec_HL s
  | .inc_L => Sys2Proof.Machine.exec_inc_L s
  | .dec_L => Sys2Proof.Machine.exec_dec_L s
  | .cpl => Sys2Proof.Machine.exec_cpl s
  | .ld_atHLdec_A => Sys2Proof.Machine.exec_ld_atHLdec_A s
  | .inc_SP => Sys2Proof.Machine.exec_inc_SP s
  | .inc_atHL => Sys2Proof.Machine.exec_inc_atHL s
  | .dec_atHL => Sys2Proof.Machine.exec_dec_atHL s
  | .scf => Sys2Proof.Machine.exec_scf s
  | .add_HL_SP => Sys2Proof.Machine.exec_add_HL_SP s
  | .ld_A_atHLdec => Sys2Proof.Machine.exec_ld_A_atHLdec s
  | .dec_SP => Sys2Proof.Machine.exec_dec_SP s
  | .inc_A => Sys2Proof.Machine.exec_inc_A s
  | .dec_A => Sys2Proof.Machine.exec_dec_A s
  | .ccf => Sys2Proof.Machine.exec_ccf s
  | .ld_B_B => Sys2Proof.Machine.exec_ld_B_B s
  | .ld_B_C => Sys2Proof.Machine.exec_ld_B_C s
  | .ld_B_D => Sys2Proof.Machine.exec_ld_B_D s
  | .ld_B_E => Sys2Proof.Machine.exec_ld_B_E s
  | .ld_B_H => Sys2Proof.Machine.exec_ld_B_H s
  | .ld_B_L => Sys2Proof.Machine.exec_ld_B_L s
  | .ld_B_atHL => Sys2Proof.Machine.exec_ld_B_atHL s
  | .ld_B_A => Sys2Proof.Machine.exec_ld_B_A s
  | .ld_C_B => Sys2Proof.Machine.exec_ld_C_B s
  | .ld_C_C => Sys2Proof.Machine.exec_ld_C_C s
  | .ld_C_D => Sys2Proof.Machine.exec_ld_C_D s
  | .ld_C_E => Sys2Proof.Machine.exec_ld_C_E s
  | .ld_C_H => Sys2Proof.Machine.exec_ld_C_H s
  | .ld_C_L => Sys2Proof.Machine.exec_ld_C_L s
  | .ld_C_atHL => Sys2Proof.Machine.exec_ld_C_atHL s
  | .ld_C_A => Sys2Proof.Machine.exec_ld_C_A s
  | .ld_D_B => Sys2Proof.Machine.exec_ld_D_B s
  | .ld_D_C => Sys2Proof.Machine.exec_ld_D_C s
  | .ld_D_D => Sys2Proof.Machine.exec_ld_D_D s
  | .ld_D_E => Sys2Proof.Machine.exec_ld_D_E s
  | .ld_D_H => Sys2Proof.Machine.exec_ld_D_H s
  | .ld_D_L => Sys2Proof.Machine.exec_ld_D_L s
  | .ld_D_atHL => Sys2Proof.Machine.exec_ld_D_atHL s
  | .ld_D_A => Sys2Proof.Machine.exec_ld_D_A s
  | .ld_E_B => Sys2Proof.Machine.exec_ld_E_B s
  | .ld_E_C => Sys2Proof.Machine.exec_ld_E_C s
  | .ld_E_D => Sys2Proof.Machine.exec_ld_E_D s
  | .ld_E_E => Sys2Proof.Machine.exec_ld_E_E s
  | .ld_E_H => Sys2Proof.Machine.exec_ld_E_H s
  | .ld_E_L => Sys2Proof.Machine.exec_ld_E_L s
  | .ld_E_atHL => Sys2Proof.Machine.exec_ld_E_atHL s
  | .ld_E_A => Sys2Proof.Machine.exec_ld_E_A s
  | .ld_H_B => Sys2Proof.Machine.exec_ld_H_B s
  | .ld_H_C => Sys2Proof.Machine.exec_ld_H_C s
  | .ld_H_D => Sys2Proof.Machine.exec_ld_H_D s
  | .ld_H_E => Sys2Proof.Machine.exec_ld_H_E s
  | .ld_H_H => Sys2Proof.Machine.exec_ld_H_H s
  | .ld_H_L => Sys2Proof.Machine.exec_ld_H_L s
  | .ld_H_atHL => Sys2Proof.Machine.exec_ld_H_atHL s
  | .ld_H_A => Sys2Proof.Machine.exec_ld_H_A s
  | .ld_L_B => Sys2Proof.Machine.exec_ld_L_B s
  | .ld_L_C => Sys2Proof.Machine.exec_ld_L_C s
  | .ld_L_D => Sys2Proof.Machine.exec_ld_L_D s
  | .ld_L_E => Sys2Proof.Machine.exec_ld_L_E s
  | .ld_L_H => Sys2Proof.Machine.exec_ld_L_H s
  | .ld_L_L => Sys2Proof.Machine.exec_ld_L_L s
  | .ld_L_atHL => Sys2Proof.Machine.exec_ld_L_atHL s
  | .ld_L_A => Sys2Proof.Machine.exec_ld_L_A s
  | .ld_atHL_B => Sys2Proof.Machine.exec_ld_atHL_B s
  | .ld_atHL_C => Sys2Proof.Machine.exec_ld_atHL_C s
  | .ld_atHL_D => Sys2Proof.Machine.exec_ld_atHL_D s
  | .ld_atHL_E => Sys2Proof.Machine.exec_ld_atHL_E s
  | .ld_atHL_H => Sys2Proof.Machine.exec_ld_atHL_H s
  | .ld_atHL_L => Sys2Proof.Machine.exec_ld_atHL_L s
  | .halt => Sys2Proof.Machine.exec_halt s
  | .ld_atHL_A => Sys2Proof.Machine.exec_ld_atHL_A s
  | .ld_A_B => Sys2Proof.Machine.exec_ld_A_B s
  | .ld_A_C => Sys2Proof.Machine.exec_ld_A_C s
  | .ld_A_D => Sys2Proof.Machine.exec_ld_A_D s
  | .ld_A_E => Sys2Proof.Machine.exec_ld_A_E s
  | .ld_A_H => Sys2Proof.Machine.exec_ld_A_H s
  | .ld_A_L => Sys2Proof.Machine.exec_ld_A_L s
  | .ld_A_atHL => Sys2Proof.Machine.exec_ld_A_atHL s
  | .ld_A_A => Sys2Proof.Machine.exec_ld_A_A s
  | .add_A_B => Sys2Proof.Machine.exec_add_A_B s
  | .add_A_C => Sys2Proof.Machine.exec_add_A_C s
  | .add_A_D => Sys2Proof.Machine.exec_add_A_D s
  | .add_A_E => Sys2Proof.Machine.exec_add_A_E s
  | .add_A_H => Sys2Proof.Machine.exec_add_A_H s
  | .add_A_L => Sys2Proof.Machine.exec_add_A_L s
  | .add_A_atHL => Sys2Proof.Machine.exec_add_A_atHL s
  | .add_A_A => Sys2Proof.Machine.exec_add_A_A s
  | .adc_A_B => Sys2Proof.Machine.exec_adc_A_B s
  | .adc_A_C => Sys2Proof.Machine.exec_adc_A_C s
  | .adc_A_D => Sys2Proof.Machine.exec_adc_A_D s
  | .adc_A_E => Sys2Proof.Machine.exec_adc_A_E s
  | .adc_A_H => Sys2Proof.Machine.exec_adc_A_H s
  | .adc_A_L => Sys2Proof.Machine.exec_adc_A_L s
  | .adc_A_atHL => Sys2Proof.Machine.exec_adc_A_atHL s
  | .adc_A_A => Sys2Proof.Machine.exec_adc_A_A s
  | .sub_B => Sys2Proof.Machine.exec_sub_B s
  | .sub_C => Sys2Proof.Machine.exec_sub_C s
  | .sub_D => Sys2Proof.Machine.exec_sub_D s
  | .sub_E => Sys2Proof.Machine.exec_sub_E s
  | .sub_H => Sys2Proof.Machine.exec_sub_H s
  | .sub_L => Sys2Proof.Machine.exec_sub_L s
  | .sub_atHL => Sys2Proof.Machine.exec_sub_atHL s
  | .sub_A => Sys2Proof.Machine.exec_sub_A s
  | .sbc_A_B => Sys2Proof.Machine.exec_sbc_A_B s
  | .sbc_A_C => Sys2Proof.Machine.exec_sbc_A_C s
  | .sbc_A_D => Sys2Proof.Machine.exec_sbc_A_D s
  | .sbc_A_E => Sys2Proof.Machine.exec_sbc_A_E s
  | .sbc_A_H => Sys2Proof.Machine.exec_sbc_A_H s
  | .sbc_A_L => Sys2Proof.Machine.exec_sbc_A_L s
  | .sbc_A_atHL => Sys2Proof.Machine.exec_sbc_A_atHL s
  | .sbc_A_A => Sys2Proof.Machine.exec_sbc_A_A s
  | .and_B => Sys2Proof.Machine.exec_and_B s
  | .and_C => Sys2Proof.Machine.exec_and_C s
  | .and_D => Sys2Proof.Machine.exec_and_D s
  | .and_E => Sys2Proof.Machine.exec_and_E s
  | .and_H => Sys2Proof.Machine.exec_and_H s
  | .and_L => Sys2Proof.Machine.exec_and_L s
  | .and_atHL => Sys2Proof.Machine.exec_and_atHL s
  | .and_A => Sys2Proof.Machine.exec_and_A s
  | .xor_B => Sys2Proof.Machine.exec_xor_B s
  | .xor_C => Sys2Proof.Machine.exec_xor_C s
  | .xor_D => Sys2Proof.Machine.exec_xor_D s
  | .xor_E => Sys2Proof.Machine.exec_xor_E s
  | .xor_H => Sys2Proof.Machine.exec_xor_H s
  | .xor_L => Sys2Proof.Machine.exec_xor_L s
  | .xor_atHL => Sys2Proof.Machine.exec_xor_atHL s
  | .xor_A => Sys2Proof.Machine.exec_xor_A s
  | .or_B => Sys2Proof.Machine.exec_or_B s
  | .or_C => Sys2Proof.Machine.exec_or_C s
  | .or_D => Sys2Proof.Machine.exec_or_D s
  | .or_E => Sys2Proof.Machine.exec_or_E s
  | .or_H => Sys2Proof.Machine.exec_or_H s
  | .or_L => Sys2Proof.Machine.exec_or_L s
  | .or_atHL => Sys2Proof.Machine.exec_or_atHL s
  | .or_A => Sys2Proof.Machine.exec_or_A s
  | .cp_B => Sys2Proof.Machine.exec_cp_B s
  | .cp_C => Sys2Proof.Machine.exec_cp_C s
  | .cp_D => Sys2Proof.Machine.exec_cp_D s
  | .cp_E => Sys2Proof.Machine.exec_cp_E s
  | .cp_H => Sys2Proof.Machine.exec_cp_H s
  | .cp_L => Sys2Proof.Machine.exec_cp_L s
  | .cp_atHL => Sys2Proof.Machine.exec_cp_atHL s
  | .cp_A => Sys2Proof.Machine.exec_cp_A s
  | .ret_NZ => Sys2Proof.Machine.exec_ret_NZ s
  | .pop_BC => Sys2Proof.Machine.exec_pop_BC s
  | .push_BC => Sys2Proof.Machine.exec_push_BC s
  | .rst_00 => Sys2Proof.Machine.exec_rst_00 s
  | .ret_Z => Sys2Proof.Machine.exec_ret_Z s
  | .ret => Sys2Proof.Machine.exec_ret s
  | .prefix_CB => Sys2Proof.Machine.exec_prefix_CB s
  | .rst_08 => Sys2Proof.Machine.exec_rst_08 s
  | .ret_NC => Sys2Proof.Machine.exec_ret_NC s
  | .pop_DE => Sys2Proof.Machine.exec_pop_DE s
  | .unsupported_D3 => Sys2Proof.Machine.exec_unsupported_D3 s
  | .push_DE => Sys2Proof.Machine.exec_push_DE s
  | .rst_10 => Sys2Proof.Machine.exec_rst_10 s
  | .ret_C => Sys2Proof.Machine.exec_ret_C s
  | .reti => Sys2Proof.Machine.exec_reti s
  | .unsupported_DB => Sys2Proof.Machine.exec_unsupported_DB s
  | .unsupported_DD => Sys2Proof.Machine.exec_unsupported_DD s
  | .rst_18 => Sys2Proof.Machine.exec_rst_18 s
  | .pop_HL => Sys2Proof.Machine.exec_pop_HL s
  | .ld_atC_A => Sys2Proof.Machine.exec_ld_atC_A s
  | .unsupported_E3 => Sys2Proof.Machine.exec_unsupported_E3 s
  | .unsupported_E4 => Sys2Proof.Machine.exec_unsupported_E4 s
  | .push_HL => Sys2Proof.Machine.exec_push_HL s
  | .rst_20 => Sys2Proof.Machine.exec_rst_20 s
  | .jp_HL => Sys2Proof.Machine.exec_jp_HL s
  | .unsupported_EB => Sys2Proof.Machine.exec_unsupported_EB s
  | .unsupported_EC => Sys2Proof.Machine.exec_unsupported_EC s
  | .unsupported_ED => Sys2Proof.Machine.exec_unsupported_ED s
  | .rst_28 => Sys2Proof.Machine.exec_rst_28 s
  | .pop_AF => Sys2Proof.Machine.exec_pop_AF s
  | .ld_A_atC => Sys2Proof.Machine.exec_ld_A_atC s
  | .di => Sys2Proof.Machine.exec_di s
  | .unsupported_F4 => Sys2Proof.Machine.exec_unsupported_F4 s
  | .push_AF => Sys2Proof.Machine.exec_push_AF s
  | .rst_30 => Sys2Proof.Machine.exec_rst_30 s
  | .ld_SP_HL => Sys2Proof.Machine.exec_ld_SP_HL s
  | .ei => Sys2Proof.Machine.exec_ei s
  | .unsupported_FC => Sys2Proof.Machine.exec_unsupported_FC s
  | .unsupported_FD => Sys2Proof.Machine.exec_unsupported_FD s
  | .rst_38 => Sys2Proof.Machine.exec_rst_38 s

end Sys2Proof.Machine
end

