-- ==== Sys2Proof/Machine/Timer.lean ====
section
/-! DEFINITION. The display timer (60_exceptions.md R540..R545). -/

namespace Sys2Proof.Machine

/-- What the timer's loop works on: the mode, the scanline, the accumulator, and whether vertical-blank was entered. -/
structure Display where
  mode : Mode
  line : Nat
  acc : Nat
  enteredVblank : Bool
  deriving DecidableEq, Repr

/-- `Threshold(mode)` (R541). -/
def threshold (m : Mode) : Nat :=
  match m with
  | .oamScan => 80 | .pixelTransfer => 172 | .hblank => 204 | .vblank => 456

/-- `Transition(mode)` (R542..R545), less the request of R544, which `timerStep` makes. -/
def transition (d : Display) : Display :=
  match d.mode with
  | .oamScan => { d with mode := .pixelTransfer }
  | .pixelTransfer => { d with mode := .hblank }
  | .hblank =>
    if d.line + 1 = 143 then { d with line := d.line + 1, mode := .vblank, enteredVblank := true }
    else { d with line := d.line + 1, mode := .oamScan }
  | .vblank =>
    if d.line + 1 = 153 then { d with line := 0, mode := .oamScan } else { d with line := d.line + 1 }

/-- The loop of R540. Every pass takes a positive threshold from `acc`, so `acc` passes are enough: the fuel never runs
out (log entry 9). -/
def timerLoop (fuel : Nat) (d : Display) : Display :=
  match fuel with
  | 0 => d
  | fuel + 1 =>
    if d.acc < threshold d.mode then d
    else timerLoop fuel (transition { d with acc := d.acc - threshold d.mode })

/-- `TimerStep(delta)` (R540). Entering vertical-blank requests the vblank interrupt if IE bit 0 is set (R544; 90_conflicts.md
C2). IE does not change inside the loop and a request is idempotent, so one test after it serves (log entry 10). -/
def timerStep (delta : Nat) (s : State) : State :=
  let d := timerLoop (s.acc + delta) { mode := s.mode, line := s.line, acc := s.acc + delta, enteredVblank := false }
  { s with
    mode := d.mode, line := d.line, acc := d.acc
    ifl := if s.ie.getLsbD 0 && d.enteredVblank then (s.request .vblank).ifl else s.ifl }

/-- The timer phase of a step: the ticks since the last one (30_encoding.md R121; 92_eei_decisions.md D20). -/
def timerPhase (s : State) : State := { timerStep (s.ticks - s.timerSeen) s with timerSeen := s.ticks }

end Sys2Proof.Machine
end

