-- ==== Sys2Proof/Machine/Step.lean ====
section
/-! DEFINITION. One step of the core (30_encoding.md R121), and the placing of an instruction word where the next step
fetches it. -/

namespace Sys2Proof.Machine

/-- One step: fetch, execute (with its cost), timer phase, interrupt phase. A fatal outcome ends the step where it
happens. With the stopped latch set nothing changes (R124); after a fatal condition there is no step (R125). -/
def step (s : State) : Host.Outcome State Fault Refusal :=
  match s.fatal with
  | some r => .fault (.noStep r)
  | none =>
    if s.stopped then .next s
    else andThen (exec (fetch s) { s with pc := s.pc + 1 }) fun s => interruptStep (timerPhase s)

/-- `s` with the instruction of the table word `w` at PC: three bytes, the bits from `nbits` up being 0. The stopped
latch and the fatal mark are cleared, since with either set nothing is fetched (log entry 5). -/
def State.withFetchWord (s : State) (nbits w : Nat) : State :=
  match tableBytes nbits w with
  | [b0, b1, b2] =>
    ((({ s with stopped := false, fatal := none } : State).poke s.pc b0).poke (s.pc + 1) b1).poke (s.pc + 2) b2
  | _ => s

end Sys2Proof.Machine
end

