-- ==== Sys2Proof/Machine/HostOps.lean ====
section
/-! DEFINITION. What the host may do to a session besides stepping it (70_reset_and_hazards.md R620): construct it, clear
the stopped latch, and read. -/

namespace Sys2Proof.Machine

/-- The ROM cells of an image, from address `at` on, without the bytes that an unlisted cell reads as. -/
def romCells (img : List Byte) (at_ : Nat) : Memory :=
  match img with
  | [] => []
  | v :: img => if v = Memory.unlisted then romCells img (at_ + 1) else (at_, v) :: romCells img (at_ + 1)

/-- `Construct(img)` (R600): a session from an image of exactly 32,768 bytes, and none from any other list (R612;
92_eei_decisions.md D34). -/
def State.construct (img : List Byte) : Option State :=
  if imageWellFormed img then some { State.reset with mem := romCells img 0 } else none

/-- `ClearStopped()` (R620). -/
def State.clearStopped (s : State) : State := { s with stopped := false }

/-- The host's read of VRAM (R620). -/
def State.readVram (s : State) (off : Fin 0x2000) : Byte := s.arrayByte .vram off.val

/-- The host's read of OAM (R620). -/
def State.readOam (s : State) (off : Fin 0x100) : Byte := s.arrayByte .oam off.val

/-- The register snapshot the host may read between steps (R620). -/
structure Snapshot where
  af : Word
  bc : Word
  de : Word
  hl : Word
  sp : Word
  pc : Word
  ime : Bool
  ie : Byte
  ifl : Byte
  mode : Mode
  line : Nat
  ticks : Nat
  deriving DecidableEq, Repr

/-- The host's read of the register snapshot (R620). -/
def State.snapshot (s : State) : Snapshot :=
  { af := s.af, bc := s.bc, de := s.de, hl := s.hl, sp := s.sp, pc := s.pc, ime := s.ime, ie := s.ie, ifl := s.ifl,
    mode := s.mode, line := s.line, ticks := s.ticks }

end Sys2Proof.Machine
end

