-- ==== Sys2Proof/Safety.lean ====
section
/-! DEFINITION. The terms that statements about the machine use: the invariant of every reachable state, what a safe
run is, and what a store, a transfer of ticks and a display position mean, written from the rules and not from the
definitions of the machine. -/

namespace Sys2Proof.Machine

/-! ### The invariant (10_state.md R52) -/

/-- The line agrees with the mode: the vertical-blank lines are 143..152, the others 0..142 (60_exceptions.md R546). It
implies R43's range. -/
def lineFitsMode (m : Mode) (line : Nat) : Prop :=
  match m with
  | .vblank => 143 ≤ line ∧ line ≤ 152
  | _ => line ≤ 142

/-- The invariant of every state a session reaches (R52), with what it takes to be kept: no fatal condition recorded,
the low nibble of F zero (R34), the line in its range, the accumulator below the threshold (R44), `timer_seen ≤ ticks`,
and the cells in canonical form. -/
structure State.Inv (s : State) : Prop where
  running : s.fatal = none
  lowNibble : s.f &&& 0x0F#8 = 0#8
  line : lineFitsMode s.mode s.line
  acc : s.acc < threshold s.mode
  seen : s.timerSeen ≤ s.ticks
  mem : s.mem.wf

/-- A state of a run about which claims are made: no unsupported opcode was reached (46_system.md R404;
93_implementation_defined.md U1) and no fatal condition was raised. -/
def State.safe (s : State) : Prop := s.unsupportedSeen = false ∧ s.fatal = none

/-! ### Stores, as seen through reads -/

/-- `x` and `a` name the same byte: equal, or the two windows of work RAM (20_memory.md R74). -/
def Alias (x a : Word) : Prop :=
  x = a ∨ (0xC000 ≤ a.toNat ∧ a.toNat ≤ 0xDDFF ∧ x.toNat = a.toNat + 0x2000)
    ∨ (0xE000 ≤ a.toNat ∧ a.toNat ≤ 0xFDFF ∧ x.toNat + 0x2000 = a.toNat)

/-- The addresses the DMA copy writes (R87). -/
def DmaTarget (x : Word) : Prop := 0xFE00 ≤ x.toNat ∧ x.toNat ≤ 0xFE9F

/-- `t` is `s` after the byte `v` was stored at `a`, as far as any read can tell: `a` and its alias read `v` (LY reads as
before, R89), a store at 0xFF46 copies 160 bytes to OAM (R87), and every other address reads as before. -/
def ByteStored (a : Word) (v : Byte) (s t : State) : Prop :=
  (∀ x, Alias x a → t.readByte x = if a = 0xFF44 then s.readByte x else v) ∧
  (a = 0xFF46 → ∀ i < 160,
    t.readByte (0xFE00 + BitVec.ofNat 16 i) =
      ({ s with dma := v } : State).readByte (concat v 0x00 + BitVec.ofNat 16 i)) ∧
  (∀ x, ¬ Alias x a → ¬ (a = 0xFF46 ∧ DmaTarget x) → t.readByte x = s.readByte x)

/-- `t` is `s` after the word `v` was stored at `a`: the low byte at `a`, then the high byte at `a + 1` (R91). -/
def ShortStored (a v : Word) (s t : State) : Prop :=
  ∃ m, ByteStored a (loByte v) s m ∧ ByteStored (a + 1) (hiByte v) m t

/-- Both bytes of a word at `a` are outside ROM, so storing it is not fatal (R86, R91). -/
def ShortWritable (a : Word) : Prop := 0x7FFF < a.toNat ∧ 0x7FFF < (a + 1).toNat

/-! ### Frames: what an instruction leaves unchanged -/

/-- Only the CPU's registers, SP, PC and the tick counter may differ: every other field of the state is as it was, and so
is every byte a read can reach. -/
def CoreFrame (s t : State) : Prop :=
  t = { s with
    a := t.a, f := t.f, b := t.b, c := t.c, d := t.d, e := t.e, h := t.h, l := t.l, sp := t.sp, pc := t.pc,
    ticks := t.ticks } ∧
  ∀ x, t.readByte x = s.readByte x

/-- As `CoreFrame`, but a store happened: the cells and the registers behind intercepted addresses may differ too, and
`ByteStored` or `ShortStored` says how. IME, the timer's fields, the latches and the log are as they were. -/
def StoreFrame (s t : State) : Prop :=
  t = { s with
    a := t.a, f := t.f, b := t.b, c := t.c, d := t.d, e := t.e, h := t.h, l := t.l, sp := t.sp, pc := t.pc,
    ticks := t.ticks, ie := t.ie, ifl := t.ifl, lcdc := t.lcdc, scy := t.scy, scx := t.scx, dma := t.dma, mem := t.mem }

/-- No general register changed. -/
def RegsKept (s t : State) : Prop := ∀ q, t.reg q = s.reg q

/-- Register `r` holds `v`, and no other general register changed. -/
def RegBecomes (r : Reg) (v : Byte) (s t : State) : Prop := t.reg r = v ∧ ∀ q, q ≠ r → t.reg q = s.reg q

/-- The pair `p` holds `v`, its first register the high byte (10_state.md R32, R33); no other general register changed,
and SP changed only as the pair. -/
def PairBecomes (p : Pair) (v : Word) (s t : State) : Prop :=
  match p with
  | .bc => t.b = hiByte v ∧ t.c = loByte v ∧ (∀ q, q ≠ .b → q ≠ .c → t.reg q = s.reg q) ∧ t.sp = s.sp
  | .de => t.d = hiByte v ∧ t.e = loByte v ∧ (∀ q, q ≠ .d → q ≠ .e → t.reg q = s.reg q) ∧ t.sp = s.sp
  | .hl => t.h = hiByte v ∧ t.l = loByte v ∧ (∀ q, q ≠ .h → q ≠ .l → t.reg q = s.reg q) ∧ t.sp = s.sp
  | .sp => t.sp = v ∧ RegsKept s t

/-- PC passes `k` immediate bytes, and the instruction's cost is added (30_encoding.md R126, R128, R129). `s` is the state
after the fetch of the opcode byte. -/
def Advances (i : Instr) (k : Word) (s t : State) : Prop :=
  t.pc = s.pc + k ∧ t.ticks = s.ticks + cost i.opcode false

/-- The four flags of `t`, with the low nibble of F as it was in `s`. -/
def FlagsBecome (s t : State) (z n h c : Bool) : Prop :=
  t.flag .z = z ∧ t.flag .n = n ∧ t.flag .h = h ∧ t.flag .c = c ∧ t.f &&& 0x0F#8 = s.f &&& 0x0F#8

/-! ### The shapes that several instructions share. `k` is the number of immediate bytes -/

/-- `i` loads register `r` from address `a`, and changes nothing else but PC and the ticks. -/
def LoadsByte (i : Instr) (r : Reg) (a k : Word) (s : State) : Prop :=
  ∃ t, exec i s = .next t ∧ RegBecomes r (s.readByte a) s t ∧ t.f = s.f ∧ t.sp = s.sp ∧ Advances i k s t ∧ CoreFrame s t

/-- `i` stores the byte `v` at address `a`: into ROM it is fatal and nothing is written (20_memory.md R86;
60_exceptions.md R500), elsewhere the byte is stored and no register but PC changes. -/
def StoresByte (i : Instr) (a : Word) (v : Byte) (k : Word) (s : State) : Prop :=
  (a.toNat ≤ 0x7FFF →
    exec i s = .fault (.fatal (.romWrite a v) { s with pc := s.pc + k, fatal := some (.romWrite a v) })) ∧
  (0x7FFF < a.toNat → ∃ t, exec i s = .next t ∧ ByteStored a v s t ∧ RegsKept s t ∧ t.f = s.f ∧ t.sp = s.sp ∧
    Advances i k s t ∧ StoreFrame s t)

/-- The instruction `i` pushes the word `v` and the push is fatal: the low byte goes to ROM, or only the high byte does,
which is at SP = 1, where the low byte has gone to IE (20_memory.md R91, R93; 60_exceptions.md R502). -/
def PushFaults (i : Instr) (v k : Word) (s : State) : Prop :=
  ((s.sp - 2).toNat ≤ 0x7FFF →
    exec i s = .fault (.fatal (.romWrite (s.sp - 2) (loByte v))
      { s with pc := s.pc + k, sp := s.sp - 2, fatal := some (.romWrite (s.sp - 2) (loByte v)) })) ∧
  (s.sp = 1 →
    exec i s = .fault (.fatal (.romWrite 0 (hiByte v))
      { s with pc := s.pc + k, sp := 0xFFFF, ie := loByte v, fatal := some (.romWrite 0 (hiByte v)) }))

/-- The instruction `i` pushes the return address, which is the address after it, and goes to `target`. -/
def Calls (i : Instr) (taken : Bool) (target k : Word) (s : State) : Prop :=
  PushFaults i (s.pc + k) k s ∧
  (ShortWritable (s.sp - 2) → ∃ t, exec i s = .next t ∧ ShortStored (s.sp - 2) (s.pc + k) s t ∧ RegsKept s t ∧
    t.f = s.f ∧ t.sp = s.sp - 2 ∧ t.pc = target ∧ t.ticks = s.ticks + cost i.opcode taken ∧ StoreFrame s t)

/-- The instruction `i` goes to `target` and changes nothing else but the ticks. -/
def JumpsTo (i : Instr) (taken : Bool) (target : Word) (s : State) : Prop :=
  ∃ t, exec i s = .next t ∧ RegsKept s t ∧ t.f = s.f ∧ t.sp = s.sp ∧ t.pc = target ∧
    t.ticks = s.ticks + cost i.opcode taken ∧ CoreFrame s t

/-- The instruction `i` pops PC: the low byte from SP, the high byte from the address after it (20_memory.md R94). -/
def Returns (i : Instr) (taken : Bool) (s : State) : Prop :=
  ∃ t, exec i s = .next t ∧ t.pc = concat (s.readByte (s.sp + 1)) (s.readByte s.sp) ∧ t.sp = s.sp + 2 ∧ RegsKept s t ∧
    t.f = s.f ∧ t.ticks = s.ticks + cost i.opcode taken ∧ CoreFrame s t

/-- The instruction `i` leaves `value` in A and the four flags, and changes nothing else but PC and the ticks. -/
def AccBecomes (i : Instr) (value : Nat) (z n h c : Bool) (k : Word) (s : State) : Prop :=
  ∃ t, exec i s = .next t ∧ t.a.toNat = value ∧ (∀ q, q ≠ .a → t.reg q = s.reg q) ∧ FlagsBecome s t z n h c ∧
    t.sp = s.sp ∧ Advances i k s t ∧ CoreFrame s t

/-- The bytes of the ALU instruction with operation code `y` (42_alu8.md R271; 30_encoding.md R132, R134): `10 yyy zzz`
for a register or (HL), `11 yyy 110` and the byte for the d8 form. -/
def aluBytes (y : Byte) (src : AluSrc) : List Byte :=
  match src with
  | .reg r => [0x80#8 ||| y <<< 3 ||| r.code]
  | .atHL => [0x80#8 ||| y <<< 3 ||| 6#8]
  | .d8 n => [0xC6#8 ||| y <<< 3, n]

/-- The number of immediate bytes of an ALU form, as a word (R271). -/
def aluOperandBytes (src : AluSrc) : Word :=
  match src with
  | .reg _ => 0
  | .atHL => 0
  | .d8 _ => 1

/-- The test of a condition code, on the bits of F (30_encoding.md R135; 10_state.md R34). -/
def condHolds (cc : Cond) (s : State) : Bool :=
  match cc with
  | .nz => !s.f.getLsbD 7
  | .z => s.f.getLsbD 7
  | .nc => !s.f.getLsbD 4
  | .c => s.f.getLsbD 4

/-- The word a pair of `rp2[p]` stands for, first register high (10_state.md R32; 30_encoding.md R133). -/
def stackWord (p : StackPair) (s : State) : Word :=
  match p with
  | .bc => concat s.b s.c
  | .de => concat s.d s.e
  | .hl => concat s.h s.l
  | .af => concat s.a s.f

/-- The packed decimal byte of a number below 100: tens in the high nibble, units in the low one. -/
def bcd (x : Nat) : Byte := BitVec.ofNat 8 (x / 10 * 16 + x % 10)

/-! ### Ticks -/

/-- The condition of a conditional instruction (45_control.md R362, R364, R367, R369). -/
def conditionOf (i : Instr) : Option Cond :=
  match i with
  | .jr_NZ_e8 _ | .jp_NZ_a16 _ | .call_NZ_a16 _ | .ret_NZ => some .nz
  | .jr_Z_e8 _ | .jp_Z_a16 _ | .call_Z_a16 _ | .ret_Z => some .z
  | .jr_NC_e8 _ | .jp_NC_a16 _ | .call_NC_a16 _ | .ret_NC => some .nc
  | .jr_C_e8 _ | .jp_C_a16 _ | .call_C_a16 _ | .ret_C => some .c
  | _ => none

/-- `taken` of 30_encoding.md R126: set by a conditional whose condition holds, false for every other instruction. -/
def takes (i : Instr) (s : State) : Bool :=
  match conditionOf i with
  | some cc => s.cond cc
  | none => false

/-! ### The display timer, from its rules -/

/-- The loop of 60_exceptions.md R540 with the transitions R542..R545 as they are written, from (mode, line, acc, IF) to
(mode, line, acc, IF), with IE fixed: a pass is taken while `acc` has reached the threshold. -/
inductive TimerRuns (ie : Byte) : Mode → Nat → Nat → Byte → Mode → Nat → Nat → Byte → Prop where
  | exit {m line acc ifl} (below : acc < threshold m) : TimerRuns ie m line acc ifl m line acc ifl
  | oamScan {line acc ifl m' line' acc' ifl'} (reached : 80 ≤ acc)
      (rest : TimerRuns ie .pixelTransfer line (acc - 80) ifl m' line' acc' ifl') :
      TimerRuns ie .oamScan line acc ifl m' line' acc' ifl'
  | pixelTransfer {line acc ifl m' line' acc' ifl'} (reached : 172 ≤ acc)
      (rest : TimerRuns ie .hblank line (acc - 172) ifl m' line' acc' ifl') :
      TimerRuns ie .pixelTransfer line acc ifl m' line' acc' ifl'
  | nextLine {line acc ifl m' line' acc' ifl'} (reached : 204 ≤ acc) (visible : line + 1 ≠ 143)
      (rest : TimerRuns ie .oamScan (line + 1) (acc - 204) ifl m' line' acc' ifl') :
      TimerRuns ie .hblank line acc ifl m' line' acc' ifl'
  | enterVblank {line acc ifl m' line' acc' ifl'} (reached : 204 ≤ acc) (last : line + 1 = 143)
      (rest : TimerRuns ie .vblank (line + 1) (acc - 204) (if ie.getLsbD 0 then ifl ||| 0x01#8 else ifl) m' line' acc' ifl') :
      TimerRuns ie .hblank line acc ifl m' line' acc' ifl'
  | vblankLine {line acc ifl m' line' acc' ifl'} (reached : 456 ≤ acc) (more : line + 1 ≠ 153)
      (rest : TimerRuns ie .vblank (line + 1) (acc - 456) ifl m' line' acc' ifl') :
      TimerRuns ie .vblank line acc ifl m' line' acc' ifl'
  | wrap {line acc ifl m' line' acc' ifl'} (reached : 456 ≤ acc) (last : line + 1 = 153)
      (rest : TimerRuns ie .oamScan 0 (acc - 456) ifl m' line' acc' ifl') :
      TimerRuns ie .vblank line acc ifl m' line' acc' ifl'

/-- The position in a frame of 153 lines of 456 ticks, in ticks since the last wrap to line 0 (R546): a line is
OAM-scan, pixel-transfer and horizontal-blank, or one vertical-blank line. -/
def framePosition (m : Mode) (line acc : Nat) : Nat :=
  match m with
  | .oamScan => line * 456 + acc
  | .pixelTransfer => line * 456 + 80 + acc
  | .hblank => line * 456 + 252 + acc
  | .vblank => line * 456 + acc

/-- The ticks of a frame (R546). -/
def frameTicks : Nat := 69768

/-- The display is where the ticks put it: reset starts at position 252 (horizontal-blank of line 0, acc 0), and every tick
the timer has seen since moved it by one, around the frame (60_exceptions.md R546; 70_reset_and_hazards.md R600). -/
def State.displayFollowsTicks (s : State) : Prop :=
  framePosition s.mode s.line s.acc = (252 + s.timerSeen) % frameTicks

end Sys2Proof.Machine
end

