-- ==== Sys2Proof/Certificates/Slice0/Obligations.lean ====
section
/-! DEFINITION. The statements for the provers. In every statement about `exec`, `s` is the state after the fetch of the
opcode byte: PC is the address of the opcode plus 1 (30_encoding.md R122; log entry 3). The shapes and frames used here
(`LoadsByte`, `StoresByte`, `CoreFrame`, `ByteStored` and the others) are in Sys2Proof/Safety.lean. -/

open Sys2Proof Sys2Proof.Machine

/-! ### Encoding -/

/-- Decoding the bytes of any instruction, whatever follows them, gives the instruction back and leaves what follows.
Every term of `Instr` is well formed (log entry 20), so no hypothesis stands. -/
def Obligations.DecodeOfEncode : Prop :=
  ∀ (i : Instr) (rest : List Byte), decode (encode i ++ rest) = .ok (i, rest)

/-- What decodes is exactly the encoding of what it decodes to: no byte is read twice, skipped or ignored. -/
def Obligations.EncodeOfDecode : Prop :=
  ∀ (bytes : List Byte) (i : Instr) (rest : List Byte), decode bytes = .ok (i, rest) → encode i ++ rest = bytes

/-- Every opcode byte decodes once its immediates are there, to an instruction whose length the first byte alone
decides, and to an unsupported one for the twelve bytes of 46_system.md R404 and no other. A list that ends before the
immediates is rejected as truncated, an empty one as having no opcode. -/
def Obligations.EveryOpcodeDecodes : Prop :=
  ∀ op b1 b2 : Byte,
    let len := if op ∈ [0x01#8, 0x08, 0x11, 0x21, 0x31, 0xC2, 0xC3, 0xC4, 0xCA, 0xCC, 0xCD, 0xD2, 0xD4, 0xDA, 0xDC, 0xEA,
        0xFA] then 3
      else if op ∈ [0x06#8, 0x0E, 0x10, 0x16, 0x18, 0x1E, 0x20, 0x26, 0x28, 0x2E, 0x30, 0x36, 0x38, 0x3E, 0xC6, 0xCE, 0xD6,
        0xDE, 0xE0, 0xE6, 0xE8, 0xEE, 0xF0, 0xF6, 0xF8, 0xFE] then 2
      else 1
    (∃ i, decode [op, b1, b2] = .ok (i, [op, b1, b2].drop len) ∧ i = decodeBytes op b1 b2 ∧ i.length = len ∧
      ((∃ o, (i, o) ∈ Instr.unsupportedList) ↔
        op ∈ [0xCB#8, 0xD3, 0xDB, 0xDD, 0xE3, 0xE4, 0xEB, 0xEC, 0xED, 0xF4, 0xFC, 0xFD])) ∧
    (len = 1 → decode [op] = .ok (decodeBytes op b1 b2, [])) ∧
    (1 < len → decode [op] = .error (.truncated op)) ∧
    (len = 2 → decode [op, b1] = .ok (decodeBytes op b1 b2, [])) ∧
    (len = 3 → decode [op, b1] = .error (.truncated op)) ∧
    decode [] = .error .noBytes

/-- One word of each family, written out from the encodings of the spec. -/
def Obligations.SampleWordsDecode : Prop :=
  decode [0b01_111_000] = .ok (.ld_A_B, []) ∧
  decode [0b00_111_110, 0x42] = .ok (.ld_A_d8 0x42, []) ∧
  decode [0b00_110_001, 0xFF, 0xDF] = .ok (.ld_SP_d16 0xDFFF, []) ∧
  decode [0b11_110_001, 0x12] = .ok (.pop_AF, [0x12]) ∧
  decode [0b10_011_100] = .ok (.sbc_A_H, []) ∧
  decode [0b00_001_001] = .ok (.add_HL_BC, []) ∧
  decode [0b00_100_111] = .ok (.daa, []) ∧
  decode [0b00_100_000, 0x04] = .ok (.jr_NZ_e8 0x04, []) ∧
  decode [0b11_001_101, 0x00, 0x03] = .ok (.call_a16 0x0300, []) ∧
  decode [0b00_010_000, 0x00] = .ok (.stop 0x00, []) ∧
  decode [0b11_001_011, 0x37] = .ok (.prefix_CB, [0x37])

/-! ### The step -/

/-- When the bytes at PC decode to an instruction, a step runs it on the state with PC past the opcode byte, and then
the timer phase and the interrupt phase, whatever the instruction (92_eei_decisions.md D33); a fault of the instruction
ends the step. -/
def Obligations.StepRunsDecodedInstruction : Prop :=
  ∀ (s : State) (i : Instr) (rest : List Byte), s.fatal = none → s.stopped = false →
    decode [s.readByte s.pc, s.readByte (s.pc + 1), s.readByte (s.pc + 2)] = .ok (i, rest) →
    step s = match exec i { s with pc := s.pc + 1 } with
      | .next t => interruptStep (timerPhase t)
      | .fault r => .fault r
      | .refused r => .refused r

/-- An instruction whose bytes a read of PC, PC + 1, … returns is the one fetched, whatever the region and whatever the
bytes after it. -/
def Obligations.BytesAtPcAreFetched : Prop :=
  ∀ (s : State) (i : Instr),
    (∀ (k : Nat) (v : Byte), (encode i)[k]? = some v → s.readByte (s.pc + BitVec.ofNat 16 k) = v) → fetch s = i

/-- While the stopped latch is set a step changes nothing at all; no step clears the latch, and the host's operation
clears it and changes nothing else. -/
def Obligations.StoppedStepChangesNothing : Prop :=
  ∀ s : State,
    (s.fatal = none → s.stopped = true → step s = .next s) ∧
    (∀ t, s.stopped = true → step s = .next t → t.stopped = true) ∧
    s.clearStopped = { s with stopped := false }

/-- After a fatal condition there is no step; that the model says so by a fault is log entry 2. -/
def Obligations.AbortedSessionHasNoStep : Prop :=
  ∀ (s : State) (r : FatalReason), s.fatal = some r → step s = .fault (.noStep r)

/-- A step of a session that is not aborted goes on, or ends in the fatal outcome of a write to ROM, whose address and
value are recorded; it is never refused, and a next state records no fatal condition. -/
def Obligations.StepIsFatalOnlyOnRomWrite : Prop :=
  ∀ s : State, s.fatal = none →
    (∃ t, step s = .next t ∧ t.fatal = none) ∨
    (∃ (a : Word) (v : Byte) (u : State), step s = .fault (.fatal (.romWrite a v) u) ∧ a.toNat ≤ 0x7FFF ∧
      u.fatal = some (.romWrite a v))

/-- The only instructions that can be fatal are those that store, push or call. -/
def Obligations.OnlyStoresAreFatal : Prop :=
  ∀ (i : Instr) (s : State),
    (∃ t, exec i s = .next t) ∨
    ((∃ (a : Word) (v : Byte) (u : State), exec i s = .fault (.fatal (.romWrite a v) u) ∧ a.toNat ≤ 0x7FFF) ∧
      ((∃ r, i = .ldToHL r) ∨ (∃ n, i = .ld_atHL_d8 n) ∨ i = .ld_atBC_A ∨ i = .ld_atDE_A ∨ i = .ld_atHLinc_A ∨
        i = .ld_atHLdec_A ∨ (∃ a, i = .ld_atA16_A a) ∨ (∃ a, i = .ld_atA16_SP a) ∨ i = .inc_atHL ∨ i = .dec_atHL ∨
        (∃ p, i = .push p) ∨ (∃ a, i = .call_a16 a) ∨ (∃ cc a, i = .callIf cc a ∧ s.cond cc = true) ∨ ∃ y, i = .rst y))

/-- An instruction adds the cost of its opcode, with the extra of a conditional exactly when its condition holds; a step
adds that and 12 more when it dispatches, and the timer has then seen the instruction's ticks but not the 12
(92_eei_decisions.md D20). -/
def Obligations.TicksOfInstructionAndStep : Prop :=
  (∀ (i : Instr) (s t : State), exec i s = .next t → t.ticks = s.ticks + cost i.opcode (takes i s)) ∧
  ∀ s t : State, s.stopped = false → step s = .next t →
    ∃ m, exec (fetch s) { s with pc := s.pc + 1 } = .next m ∧
      t.timerSeen = s.ticks + cost (fetch s).opcode (takes (fetch s) s) ∧
      t.ticks = s.ticks + cost (fetch s).opcode (takes (fetch s) s) +
        if m.ime = true ∧ (timerPhase m).ie &&& (timerPhase m).ifl &&& 0x1F#8 ≠ 0 then 12 else 0

/-- The entries of the two cost tables that the spec pins; the others are free (92_eei_decisions.md D3; log entry 6). -/
def Obligations.CostTablePins : Prop :=
  baseTicks 0x00 = 2 ∧
  (∀ op ∈ [0xCB#8, 0xD3, 0xDB, 0xDD, 0xE3, 0xE4, 0xEB, 0xEC, 0xED, 0xF4, 0xFC, 0xFD], baseTicks op = 0) ∧
  (∀ op : Byte, op ∉ [0x20#8, 0x28, 0x30, 0x38, 0xC2, 0xCA, 0xD2, 0xDA, 0xC4, 0xCC, 0xD4, 0xDC, 0xC0, 0xC8, 0xD0, 0xD8] →
    takenExtra op = 0) ∧
  ∀ (op : Byte) (taken : Bool), cost op taken = baseTicks op + if taken then takenExtra op else 0

/-! ### Reset, construction and invariants -/

/-- Construction from an image of exactly 32,768 bytes gives ROM the image, zeroes every other array, and sets every
register and latch to its reset value; from a list of any other size there is no session (92_eei_decisions.md D34). The
values the source does not name are the spec's decisions D20, D21 and D22. -/
def Obligations.ConstructionEstablishesReset : Prop :=
  ∀ img : List Byte,
    (img.length ≠ 32768 → State.construct img = none) ∧
    (img.length = 32768 → ∃ s, State.construct img = some s ∧
      (∀ (i : Nat) (h : i < img.length), s.arrayByte .rom i = img[i]) ∧
      (∀ (r : Region) (i : Nat), r ≠ .rom → i < r.size → s.arrayByte r i = 0x00) ∧
      s.a = 0x01 ∧ s.f = 0xB0 ∧ s.b = 0x00 ∧ s.c = 0x13 ∧ s.d = 0x00 ∧ s.e = 0xD8 ∧ s.h = 0x01 ∧ s.l = 0x4D ∧
      s.sp = 0xFFFE ∧ s.pc = 0x0100 ∧ s.ime = true ∧ s.ie = 0x00 ∧ s.ifl = 0x00 ∧
      s.mode = .hblank ∧ s.line = 0 ∧ s.acc = 0 ∧ s.lcdc = 0x00 ∧ s.scy = 0x00 ∧ s.scx = 0x00 ∧ s.dma = 0x00 ∧
      s.ticks = 0 ∧ s.timerSeen = 0 ∧ s.stopped = false ∧ s.fatal = none ∧ s.unsupportedSeen = false ∧ s.log = [] ∧
      s.Inv)

/-- `State.reset` is what construction from the zeroed image gives (that image is the model's choice: log entry 4). -/
def Obligations.ZeroImageConstructsReset : Prop :=
  State.construct (List.replicate 32768 0x00) = some State.reset

/-- The first step of a session with a zeroed image: a NOP, PC = 0x0101, 2 ticks, of which the display timer has been
fed both (the spec's own inference in R603), and no dispatch. -/
def Obligations.FirstStepOfZeroImage : Prop :=
  step State.reset = .next { State.reset with pc := 0x0101, ticks := 2, timerSeen := 2, acc := 2 }

/-- The state right after reset meets the invariant. -/
def Obligations.ResetMeetsInvariant : Prop := State.reset.Inv

/-- Every step keeps the invariant: the low nibble of F is zero, the line is in its range and agrees with the mode, the
accumulator is below the threshold, the timer has seen no more ticks than there are, no fatal condition is recorded, and
memory is canonical. From every state that meets it, not only from reset. The spec marks R52 as its own inference; the
canonical form is the model's (log entry 4). -/
def Obligations.EveryStepKeepsInvariant : Prop :=
  ∀ s t : State, s.Inv → step s = .next t → t.Inv

/-- No step changes a byte of ROM, and neither does what a fatal step wrote before its fault. -/
def Obligations.RomNeverChanges : Prop :=
  ∀ (s : State) (a : Word), s.mem.wf → a.toNat ≤ 0x7FFF →
    (∀ t, step s = .next t → t.readByte a = s.readByte a) ∧
    ∀ r u, step s = .fault (.fatal r u) → u.readByte a = s.readByte a

/-! ### Registers -/

/-- The pair views, read and written: the first register is the high byte, and AF is written through the four flags, the
low nibble of F staying zero. -/
def Obligations.PairViews : Prop :=
  ∀ (s : State) (v : Word),
    s.af.toNat = s.a.toNat * 256 + s.f.toNat ∧ s.bc.toNat = s.b.toNat * 256 + s.c.toNat ∧
    s.de.toNat = s.d.toNat * 256 + s.e.toNat ∧ s.hl.toNat = s.h.toNat * 256 + s.l.toNat ∧
    s.setBC v = { s with b := v.extractLsb' 8 8, c := v.extractLsb' 0 8 } ∧
    s.setDE v = { s with d := v.extractLsb' 8 8, e := v.extractLsb' 0 8 } ∧
    s.setHL v = { s with h := v.extractLsb' 8 8, l := v.extractLsb' 0 8 } ∧
    (s.f &&& 0x0F#8 = 0#8 → s.setAF v = { s with a := v.extractLsb' 8 8, f := v.extractLsb' 0 8 &&& 0xF0#8 }) ∧
    (s.setBC v).bc = v ∧ (s.setDE v).de = v ∧ (s.setHL v).hl = v

/-! ### The bus -/

/-- What a read of every address returns. The boundaries and the intercepted addresses are the spec's decisions D4 to
D7. -/
def Obligations.ReadMap : Prop :=
  ∀ (s : State) (a : Word),
    (a.toNat ≤ 0x7FFF → s.readByte a = s.arrayByte .rom a.toNat) ∧
    (0x8000 ≤ a.toNat ∧ a.toNat ≤ 0x9FFF → s.readByte a = s.arrayByte .vram (a.toNat - 0x8000)) ∧
    (0xA000 ≤ a.toNat ∧ a.toNat ≤ 0xBFFF → s.readByte a = s.arrayByte .eram (a.toNat - 0xA000)) ∧
    (0xC000 ≤ a.toNat ∧ a.toNat ≤ 0xDFFF → s.readByte a = s.arrayByte .wram (a.toNat - 0xC000)) ∧
    (0xE000 ≤ a.toNat ∧ a.toNat ≤ 0xFDFF → s.readByte a = s.arrayByte .wram (a.toNat - 0xE000)) ∧
    (0xFE00 ≤ a.toNat ∧ a.toNat ≤ 0xFEFF → s.readByte a = s.arrayByte .oam (a.toNat - 0xFE00)) ∧
    s.readByte 0xFF0F = s.ifl ∧ s.readByte 0xFF40 = s.lcdc ∧ s.readByte 0xFF42 = s.scy ∧ s.readByte 0xFF43 = s.scx ∧
    s.readByte 0xFF44 = BitVec.ofNat 8 s.line ∧ s.readByte 0xFF46 = s.dma ∧
    (0xFF00 ≤ a.toNat ∧ a.toNat ≤ 0xFF7F ∧ a ∉ [0xFF0F#16, 0xFF40, 0xFF42, 0xFF43, 0xFF44, 0xFF46] →
      s.readByte a = s.arrayByte .io (a.toNat - 0xFF00)) ∧
    (0xFF80 ≤ a.toNat ∧ a.toNat ≤ 0xFFFE → s.readByte a = s.arrayByte .hram (a.toNat - 0xFF80)) ∧
    s.readByte 0xFFFF = s.ie

/-- What a write to every address does: fatal in ROM, one array byte elsewhere, and at an intercepted address the
register (IF and IE with all 8 bits), nothing at LY, the copy at DMA. The boundaries and the intercepted addresses are
the spec's decisions D4 to D9. -/
def Obligations.WriteMap : Prop :=
  ∀ (s : State) (a : Word) (v : Byte),
    (a.toNat ≤ 0x7FFF → writeByte a v s = .fault (.fatal (.romWrite a v) { s with fatal := some (.romWrite a v) })) ∧
    (0x8000 ≤ a.toNat ∧ a.toNat ≤ 0x9FFF → writeByte a v s = .next (s.setArrayByte .vram (a.toNat - 0x8000) v)) ∧
    (0xA000 ≤ a.toNat ∧ a.toNat ≤ 0xBFFF → writeByte a v s = .next (s.setArrayByte .eram (a.toNat - 0xA000) v)) ∧
    (0xC000 ≤ a.toNat ∧ a.toNat ≤ 0xDFFF → writeByte a v s = .next (s.setArrayByte .wram (a.toNat - 0xC000) v)) ∧
    (0xE000 ≤ a.toNat ∧ a.toNat ≤ 0xFDFF → writeByte a v s = .next (s.setArrayByte .wram (a.toNat - 0xE000) v)) ∧
    (0xFE00 ≤ a.toNat ∧ a.toNat ≤ 0xFEFF → writeByte a v s = .next (s.setArrayByte .oam (a.toNat - 0xFE00) v)) ∧
    writeByte 0xFF0F v s = .next { s with ifl := v } ∧ writeByte 0xFF40 v s = .next { s with lcdc := v } ∧
    writeByte 0xFF42 v s = .next { s with scy := v } ∧ writeByte 0xFF43 v s = .next { s with scx := v } ∧
    writeByte 0xFF44 v s = .next s ∧ writeByte 0xFF46 v s = .next (dmaCopy v { s with dma := v }) ∧
    (0xFF00 ≤ a.toNat ∧ a.toNat ≤ 0xFF7F ∧ a ∉ [0xFF0F#16, 0xFF40, 0xFF42, 0xFF43, 0xFF44, 0xFF46] →
      writeByte a v s = .next (s.setArrayByte .io (a.toNat - 0xFF00) v)) ∧
    (0xFF80 ≤ a.toNat ∧ a.toNat ≤ 0xFFFE → writeByte a v s = .next (s.setArrayByte .hram (a.toNat - 0xFF80) v)) ∧
    writeByte 0xFFFF v s = .next { s with ie := v }

/-- After a byte write above ROM, a read of the same byte, through either window of work RAM, returns it, and every
other address reads as before, with what LY and DMA do said in `ByteStored`. No register, latch or timer field changes.
-/
def Obligations.ReadAfterByteWrite : Prop :=
  ∀ (s : State) (a : Word) (v : Byte), s.mem.wf → 0x7FFF < a.toNat →
    ∃ t, writeByte a v s = .next t ∧ ByteStored a v s t ∧ t.mem.wf ∧
      t = { s with
        ie := t.ie, ifl := t.ifl, lcdc := t.lcdc, scy := t.scy, scx := t.scx, dma := t.dma, mem := t.mem }

/-- A write to 0xFF46 copies 160 bytes to OAM inside the write and adds no ticks; the written value is read back, every
address outside OAM's first 160 bytes reads as before, and a copy of OAM onto itself (0xFE) changes no byte of it. The
source address is the spec's decision D8. -/
def Obligations.DmaCopies : Prop :=
  ∀ (s : State) (v : Byte), s.mem.wf →
    ∃ t, writeByte 0xFF46 v s = .next t ∧ t.dma = v ∧ t.ticks = s.ticks ∧
      (∀ i < 160, t.readByte (0xFE00 + BitVec.ofNat 16 i) =
        ({ s with dma := v } : State).readByte (BitVec.ofNat 16 (v.toNat * 256) + BitVec.ofNat 16 i)) ∧
      (∀ x : Word, ¬ (0xFE00 ≤ x.toNat ∧ x.toNat ≤ 0xFE9F) → x ≠ 0xFF46 → t.readByte x = s.readByte x) ∧
      (v = 0xFE → ∀ x : Word, x ≠ 0xFF46 → t.readByte x = s.readByte x) ∧
      t = { s with dma := v, mem := t.mem }

/-- A word write puts the low byte at the address and the high byte after it, low byte first: a fatal low byte stops it
with nothing written, and at 0xFFFF the low byte has gone to IE when the high byte is fatal. Elsewhere, and away from
LY, the word reads back. -/
def Obligations.WordWriteRoundTrip : Prop :=
  ∀ (s : State) (a v : Word), s.mem.wf →
    s.readShort a = concat (s.readByte (a + 1)) (s.readByte a) ∧
    (a.toNat ≤ 0x7FFF → writeShort a v s = .fault (.fatal (.romWrite a (loByte v))
      { s with fatal := some (.romWrite a (loByte v)) })) ∧
    (a = 0xFFFF → writeShort a v s = .fault (.fatal (.romWrite 0x0000 (hiByte v))
      { s with ie := loByte v, fatal := some (.romWrite 0x0000 (hiByte v)) })) ∧
    (ShortWritable a → ∃ t, writeShort a v s = .next t ∧ ShortStored a v s t ∧
      (a ≠ 0xFF44 → a + 1 ≠ 0xFF44 → t.readShort a = v))

/-- A push decrements SP by 2 before either write, so SP holds the new value even when a write is fatal; a pop reads the
word and then adds 2 to SP. After a push that is not fatal and does not touch LY, a pop returns the word and SP. -/
def Obligations.PushThenPop : Prop :=
  ∀ (s : State) (v : Word), s.mem.wf →
    push16 v s = writeShort (s.sp - 2) v { s with sp := s.sp - 2 } ∧
    (∀ r u, push16 v s = .fault (.fatal r u) → u.sp = s.sp - 2) ∧
    s.stackTop = s.readShort s.sp ∧ s.dropTop = { s with sp := s.sp + 2 } ∧
    (ShortWritable (s.sp - 2) → s.sp - 2 ≠ 0xFF44 → s.sp - 1 ≠ 0xFF44 →
      ∃ t, push16 v s = .next t ∧ t.stackTop = v ∧ t.dropTop.sp = s.sp)

/-! ### 8-bit loads and stores -/

/-- LD r,r': all 49 forms. -/
def Obligations.LdRegReg : Prop :=
  ∀ (dst src : Reg) (s : State),
    encode (.ldReg dst src) = [0x40#8 ||| dst.code <<< 3 ||| src.code] ∧
    ∃ t, exec (.ldReg dst src) s = .next t ∧ RegBecomes dst (s.reg src) s t ∧ t.f = s.f ∧ t.sp = s.sp ∧
      Advances (.ldReg dst src) 0 s t ∧ CoreFrame s t

/-- LD r,d8: all 7 forms. -/
def Obligations.LdRegImmediate : Prop :=
  ∀ (r : Reg) (n : Byte) (s : State),
    encode (.ldImm r n) = [r.code <<< 3 ||| 0x06#8, n] ∧
    ∃ t, exec (.ldImm r n) s = .next t ∧ RegBecomes r n s t ∧ t.f = s.f ∧ t.sp = s.sp ∧ Advances (.ldImm r n) 1 s t ∧
      CoreFrame s t

/-- Every load of one byte: LD r,(HL) in all 7 forms, LD A,(BC), LD A,(DE), LD A,(a16), LDH A,(a8), LD A,(C). No address
makes them fault; the byte is read with the registers as they were before. -/
def Obligations.LoadsFromMemory : Prop :=
  ∀ (r : Reg) (a : Word) (n : Byte) (s : State),
    (encode (.ldFromHL r) = [0x46#8 ||| r.code <<< 3] ∧ LoadsByte (.ldFromHL r) r (concat s.h s.l) 0 s) ∧
    (encode .ld_A_atBC = [0x0A] ∧ LoadsByte .ld_A_atBC .a (concat s.b s.c) 0 s) ∧
    (encode .ld_A_atDE = [0x1A] ∧ LoadsByte .ld_A_atDE .a (concat s.d s.e) 0 s) ∧
    (encode (.ld_A_atA16 a) = [0xFA, loByte a, hiByte a] ∧ LoadsByte (.ld_A_atA16 a) .a a 2 s) ∧
    (encode (.ldh_A_atA8 n) = [0xF0, n] ∧ LoadsByte (.ldh_A_atA8 n) .a (concat 0xFF n) 1 s) ∧
    (encode .ld_A_atC = [0xF2] ∧ LoadsByte .ld_A_atC .a (concat 0xFF s.c) 0 s)

/-- LD A,(HL+) and LD A,(HL-): A is read at the old HL, and HL is then stepped modulo 2^16. -/
def Obligations.LoadsThatStepHL : Prop :=
  ∀ s : State,
    (encode .ld_A_atHLinc = [0x2A] ∧ ∃ t, exec .ld_A_atHLinc s = .next t ∧ t.a = s.readByte s.hl ∧ t.hl = s.hl + 1 ∧
      (∀ q, q ≠ .a → q ≠ .h → q ≠ .l → t.reg q = s.reg q) ∧ t.f = s.f ∧ t.sp = s.sp ∧ Advances .ld_A_atHLinc 0 s t ∧
      CoreFrame s t) ∧
    (encode .ld_A_atHLdec = [0x3A] ∧ ∃ t, exec .ld_A_atHLdec s = .next t ∧ t.a = s.readByte s.hl ∧ t.hl = s.hl - 1 ∧
      (∀ q, q ≠ .a → q ≠ .h → q ≠ .l → t.reg q = s.reg q) ∧ t.f = s.f ∧ t.sp = s.sp ∧ Advances .ld_A_atHLdec 0 s t ∧
      CoreFrame s t)

/-- Every store of one byte: LD (HL),r in all 7 forms, LD (HL),d8, LD (BC),A, LD (DE),A, LD (a16),A, LDH (a8),A, LD
(C),A. Fatal exactly when the address is in ROM, which it never is for the last two. -/
def Obligations.StoresToMemory : Prop :=
  ∀ (r : Reg) (a : Word) (n : Byte) (s : State), s.mem.wf →
    (encode (.ldToHL r) = [0x70#8 ||| r.code] ∧ StoresByte (.ldToHL r) (concat s.h s.l) (s.reg r) 0 s) ∧
    (encode (.ld_atHL_d8 n) = [0x36, n] ∧ StoresByte (.ld_atHL_d8 n) (concat s.h s.l) n 1 s) ∧
    (encode .ld_atBC_A = [0x02] ∧ StoresByte .ld_atBC_A (concat s.b s.c) s.a 0 s) ∧
    (encode .ld_atDE_A = [0x12] ∧ StoresByte .ld_atDE_A (concat s.d s.e) s.a 0 s) ∧
    (encode (.ld_atA16_A a) = [0xEA, loByte a, hiByte a] ∧ StoresByte (.ld_atA16_A a) a s.a 2 s) ∧
    (encode (.ldh_atA8_A n) = [0xE0, n] ∧ StoresByte (.ldh_atA8_A n) (concat 0xFF n) s.a 1 s ∧
      0x7FFF < (concat 0xFF n).toNat) ∧
    (encode .ld_atC_A = [0xE2] ∧ StoresByte .ld_atC_A (concat 0xFF s.c) s.a 0 s ∧ 0x7FFF < (concat 0xFF s.c).toNat)

/-- LD (HL+),A and LD (HL-),A: A is stored at the old HL, and HL is then stepped modulo 2^16; a fatal store leaves HL as
it was. The wrap at 0xFFFF is the spec's decision D12. -/
def Obligations.StoresThatStepHL : Prop :=
  ∀ s : State, s.mem.wf →
    ((s.hl.toNat ≤ 0x7FFF → ∀ i, i = .ld_atHLinc_A ∨ i = .ld_atHLdec_A →
      exec i s = .fault (.fatal (.romWrite s.hl s.a) { s with fatal := some (.romWrite s.hl s.a) }))) ∧
    (encode .ld_atHLinc_A = [0x22] ∧ (0x7FFF < s.hl.toNat → ∃ t, exec .ld_atHLinc_A s = .next t ∧
      ByteStored s.hl s.a s t ∧ t.hl = s.hl + 1 ∧ (∀ q, q ≠ .h → q ≠ .l → t.reg q = s.reg q) ∧ t.f = s.f ∧ t.sp = s.sp ∧
      Advances .ld_atHLinc_A 0 s t ∧ StoreFrame s t)) ∧
    (encode .ld_atHLdec_A = [0x32] ∧ (0x7FFF < s.hl.toNat → ∃ t, exec .ld_atHLdec_A s = .next t ∧
      ByteStored s.hl s.a s t ∧ t.hl = s.hl - 1 ∧ (∀ q, q ≠ .h → q ≠ .l → t.reg q = s.reg q) ∧ t.f = s.f ∧ t.sp = s.sp ∧
      Advances .ld_atHLdec_A 0 s t ∧ StoreFrame s t))

/-! ### 16-bit loads and the stack -/

/-- LD rr,d16 in all 4 forms, and LD SP,HL. -/
def Obligations.PairLoads : Prop :=
  ∀ (p : Pair) (v : Word) (s : State),
    (encode (.ldPair p v) = [p.code <<< 4 ||| 0x01#8, loByte v, hiByte v] ∧
      ∃ t, exec (.ldPair p v) s = .next t ∧ PairBecomes p v s t ∧ t.f = s.f ∧ Advances (.ldPair p v) 2 s t ∧
        CoreFrame s t) ∧
    (encode .ld_SP_HL = [0xF9] ∧ ∃ t, exec .ld_SP_HL s = .next t ∧ t.sp = s.hl ∧ RegsKept s t ∧ t.f = s.f ∧
      Advances .ld_SP_HL 0 s t ∧ CoreFrame s t)

/-- LD HL,SP+e8 and ADD SP,e8: the byte is signed in the sum, while H and C are the carries of the unsigned addition of
the low bytes. -/
def Obligations.SpPlusSignedByte : Prop :=
  ∀ (e : Byte) (s : State),
    let sum := BitVec.ofInt 16 (s.sp.toNat + e.toInt)
    let half := decide (s.sp.toNat % 16 + e.toNat % 16 > 0x0F)
    let carry := decide (s.sp.toNat % 256 + e.toNat > 0xFF)
    (encode (.ld_HL_SPe8 e) = [0xF8, e] ∧ ∃ t, exec (.ld_HL_SPe8 e) s = .next t ∧ PairBecomes .hl sum s t ∧
      FlagsBecome s t false false half carry ∧ Advances (.ld_HL_SPe8 e) 1 s t ∧ CoreFrame s t) ∧
    (encode (.add_SP_e8 e) = [0xE8, e] ∧ ∃ t, exec (.add_SP_e8 e) s = .next t ∧ PairBecomes .sp sum s t ∧
      FlagsBecome s t false false half carry ∧ Advances (.add_SP_e8 e) 1 s t ∧ CoreFrame s t)

/-- LD (a16),SP: fatal in ROM, and at 0xFFFF once the low byte has gone to IE. -/
def Obligations.StoreSp : Prop :=
  ∀ (a : Word) (s : State), s.mem.wf →
    encode (.ld_atA16_SP a) = [0x08, loByte a, hiByte a] ∧
    (a.toNat ≤ 0x7FFF → exec (.ld_atA16_SP a) s = .fault (.fatal (.romWrite a (loByte s.sp))
      { s with pc := s.pc + 2, fatal := some (.romWrite a (loByte s.sp)) })) ∧
    (a = 0xFFFF → exec (.ld_atA16_SP a) s = .fault (.fatal (.romWrite 0x0000 (hiByte s.sp))
      { s with pc := s.pc + 2, ie := loByte s.sp, fatal := some (.romWrite 0x0000 (hiByte s.sp)) })) ∧
    (ShortWritable a → ∃ t, exec (.ld_atA16_SP a) s = .next t ∧ ShortStored a s.sp s t ∧ RegsKept s t ∧ t.f = s.f ∧
      t.sp = s.sp ∧ Advances (.ld_atA16_SP a) 2 s t ∧ StoreFrame s t)

/-- PUSH rr in all 4 forms: the pair's second register (F for AF) at the new SP, the first one above it. -/
def Obligations.PushPairs : Prop :=
  ∀ (p : StackPair) (s : State), s.mem.wf →
    let v := stackWord p s
    encode (.push p) = [0xC5#8 ||| p.code <<< 4] ∧ PushFaults (.push p) v 0 s ∧
    (ShortWritable (s.sp - 2) → ∃ t, exec (.push p) s = .next t ∧ ShortStored (s.sp - 2) v s t ∧ RegsKept s t ∧
      t.f = s.f ∧ t.sp = s.sp - 2 ∧ Advances (.push p) 0 s t ∧ StoreFrame s t)

/-- POP rr in all 4 forms; it never faults. POP AF writes the four flags from bits 7..4 of the low byte and discards its
bits 3..0 (92_eei_decisions.md D29). -/
def Obligations.PopPairs : Prop :=
  ∀ s : State,
    let lo := s.readByte s.sp
    let hi := s.readByte (s.sp + 1)
    (encode .pop_BC = [0xC1] ∧ ∃ t, exec .pop_BC s = .next t ∧ t.b = hi ∧ t.c = lo ∧
      (∀ q, q ≠ .b → q ≠ .c → t.reg q = s.reg q) ∧ t.f = s.f ∧ t.sp = s.sp + 2 ∧ Advances .pop_BC 0 s t ∧
      CoreFrame s t) ∧
    (encode .pop_DE = [0xD1] ∧ ∃ t, exec .pop_DE s = .next t ∧ t.d = hi ∧ t.e = lo ∧
      (∀ q, q ≠ .d → q ≠ .e → t.reg q = s.reg q) ∧ t.f = s.f ∧ t.sp = s.sp + 2 ∧ Advances .pop_DE 0 s t ∧
      CoreFrame s t) ∧
    (encode .pop_HL = [0xE1] ∧ ∃ t, exec .pop_HL s = .next t ∧ t.h = hi ∧ t.l = lo ∧
      (∀ q, q ≠ .h → q ≠ .l → t.reg q = s.reg q) ∧ t.f = s.f ∧ t.sp = s.sp + 2 ∧ Advances .pop_HL 0 s t ∧
      CoreFrame s t) ∧
    (encode .pop_AF = [0xF1] ∧ ∃ t, exec .pop_AF s = .next t ∧ RegBecomes .a hi s t ∧
      FlagsBecome s t (lo.getLsbD 7) (lo.getLsbD 6) (lo.getLsbD 5) (lo.getLsbD 4) ∧ t.sp = s.sp + 2 ∧
      Advances .pop_AF 0 s t ∧ CoreFrame s t)

/-! ### 8-bit arithmetic -/

/-- ADD A,s and ADC A,s in all their forms, as exact sums. The rule of ADC is the spec's decision D23. -/
def Obligations.AddAndAdc : Prop :=
  ∀ (src : AluSrc) (s : State),
    let a := s.a.toNat
    let x := (s.aluSrc src).toNat
    let c := (s.flag .c).toNat
    (encode (.alu .add src) = aluBytes 0 src ∧
      AccBecomes (.alu .add src) ((a + x) % 256) (decide ((a + x) % 256 = 0)) false (decide (a % 16 + x % 16 > 0x0F))
        (decide (a + x > 0xFF)) (aluOperandBytes src) s) ∧
    (encode (.alu .adc src) = aluBytes 1 src ∧
      AccBecomes (.alu .adc src) ((a + x + c) % 256) (decide ((a + x + c) % 256 = 0)) false
        (decide (a % 16 + x % 16 + c > 0x0F)) (decide (a + x + c > 0xFF)) (aluOperandBytes src) s)

/-- SUB s, SBC A,s and CP s in all their forms, as exact differences; CP writes the flags of SUB and not A. The rule of
SBC is the spec's decision D23. -/
def Obligations.SubSbcAndCp : Prop :=
  ∀ (src : AluSrc) (s : State),
    let a := s.a.toNat
    let x := (s.aluSrc src).toNat
    let c := (s.flag .c).toNat
    (encode (.alu .sub src) = aluBytes 2 src ∧
      AccBecomes (.alu .sub src) ((a + 256 - x) % 256) (decide ((a + 256 - x) % 256 = 0)) true (decide (a % 16 < x % 16))
        (decide (a < x)) (aluOperandBytes src) s) ∧
    (encode (.alu .sbc src) = aluBytes 3 src ∧
      AccBecomes (.alu .sbc src) ((a + 512 - x - c) % 256) (decide ((a + 512 - x - c) % 256 = 0)) true
        (decide (a % 16 < x % 16 + c)) (decide (a < x + c)) (aluOperandBytes src) s) ∧
    (encode (.alu .cp src) = aluBytes 7 src ∧
      AccBecomes (.alu .cp src) a (decide ((a + 256 - x) % 256 = 0)) true (decide (a % 16 < x % 16)) (decide (a < x))
        (aluOperandBytes src) s)

/-- AND s, XOR s and OR s in all their forms. -/
def Obligations.AndXorAndOr : Prop :=
  ∀ (src : AluSrc) (s : State),
    let x := s.aluSrc src
    (encode (.alu .and src) = aluBytes 4 src ∧
      AccBecomes (.alu .and src) (s.a &&& x).toNat (decide (s.a &&& x = 0)) false true false (aluOperandBytes src) s) ∧
    (encode (.alu .xor src) = aluBytes 5 src ∧
      AccBecomes (.alu .xor src) (s.a ^^^ x).toNat (decide (s.a ^^^ x = 0)) false false false (aluOperandBytes src) s) ∧
    (encode (.alu .or src) = aluBytes 6 src ∧
      AccBecomes (.alu .or src) (s.a ||| x).toNat (decide (s.a ||| x = 0)) false false false (aluOperandBytes src) s)

/-- The source operand of the ALU instructions: a register, the byte at HL, or the immediate byte. -/
def Obligations.AluSourceOperand : Prop :=
  ∀ s : State,
    s.aluSrc (.reg .b) = s.b ∧ s.aluSrc (.reg .c) = s.c ∧ s.aluSrc (.reg .d) = s.d ∧ s.aluSrc (.reg .e) = s.e ∧
    s.aluSrc (.reg .h) = s.h ∧ s.aluSrc (.reg .l) = s.l ∧ s.aluSrc (.reg .a) = s.a ∧
    s.aluSrc .atHL = s.readByte (concat s.h s.l) ∧ (∀ n, s.aluSrc (.d8 n) = n) ∧
    ∀ (op : AluOp) (src : AluSrc), encode (.alu op src) = aluBytes op.code src

/-- INC r and DEC r in all 7 forms: Z, N, H written, C kept. -/
def Obligations.IncAndDecRegister : Prop :=
  ∀ (r : Reg) (s : State),
    (encode (.incReg r) = [0x04#8 ||| r.code <<< 3] ∧ ∃ t, exec (.incReg r) s = .next t ∧
      RegBecomes r (s.reg r + 1) s t ∧
      FlagsBecome s t (decide (s.reg r + 1 = 0)) false (decide ((s.reg r).toNat % 16 = 0x0F)) (s.flag .c) ∧
      t.sp = s.sp ∧ Advances (.incReg r) 0 s t ∧ CoreFrame s t) ∧
    (encode (.decReg r) = [0x05#8 ||| r.code <<< 3] ∧ ∃ t, exec (.decReg r) s = .next t ∧
      RegBecomes r (s.reg r - 1) s t ∧
      FlagsBecome s t (decide (s.reg r - 1 = 0)) true (decide ((s.reg r).toNat % 16 = 0x00)) (s.flag .c) ∧
      t.sp = s.sp ∧ Advances (.decReg r) 0 s t ∧ CoreFrame s t)

/-- INC (HL) and DEC (HL): the byte at HL is written back stepped; Z, N, H follow the byte that was read, C is kept;
into ROM they are fatal and no flag is written. -/
def Obligations.IncAndDecMemory : Prop :=
  ∀ s : State, s.mem.wf →
    let v := s.readByte s.hl
    let up := v + 1
    let down := v - 1
    (encode .inc_atHL = [0x34] ∧
      (s.hl.toNat ≤ 0x7FFF →
        exec .inc_atHL s = .fault (.fatal (.romWrite s.hl up) { s with fatal := some (.romWrite s.hl up) })) ∧
      (0x7FFF < s.hl.toNat → ∃ t, exec .inc_atHL s = .next t ∧ ByteStored s.hl up s t ∧
        FlagsBecome s t (decide (up = 0)) false (decide (v.toNat % 16 = 0x0F)) (s.flag .c) ∧ RegsKept s t ∧
        t.sp = s.sp ∧ Advances .inc_atHL 0 s t ∧ StoreFrame s t)) ∧
    (encode .dec_atHL = [0x35] ∧
      (s.hl.toNat ≤ 0x7FFF →
        exec .dec_atHL s = .fault (.fatal (.romWrite s.hl down) { s with fatal := some (.romWrite s.hl down) })) ∧
      (0x7FFF < s.hl.toNat → ∃ t, exec .dec_atHL s = .next t ∧ ByteStored s.hl down s t ∧
        FlagsBecome s t (decide (down = 0)) true (decide (v.toNat % 16 = 0x00)) (s.flag .c) ∧ RegsKept s t ∧
        t.sp = s.sp ∧ Advances .dec_atHL 0 s t ∧ StoreFrame s t))

/-- Decrementing what was just incremented gives the register back, and neither writes C. -/
def Obligations.DecUndoesInc : Prop :=
  ∀ (r : Reg) (s : State), ∃ m t, exec (.incReg r) s = .next m ∧ exec (.decReg r) m = .next t ∧
    (∀ q, t.reg q = s.reg q) ∧ m.flag .c = s.flag .c ∧ t.flag .c = s.flag .c

/-! ### 16-bit arithmetic -/

/-- INC rr and DEC rr in all 4 forms, modulo 2^16, with no flag written. -/
def Obligations.IncAndDecPair : Prop :=
  ∀ (p : Pair) (s : State),
    (encode (.incPair p) = [p.code <<< 4 ||| 0x03#8] ∧ ∃ t, exec (.incPair p) s = .next t ∧
      PairBecomes p (s.pair p + 1) s t ∧ t.f = s.f ∧ Advances (.incPair p) 0 s t ∧
      CoreFrame s t) ∧
    (encode (.decPair p) = [p.code <<< 4 ||| 0x0B#8] ∧ ∃ t, exec (.decPair p) s = .next t ∧
      PairBecomes p (s.pair p - 1) s t ∧ t.f = s.f ∧ Advances (.decPair p) 0 s t ∧
      CoreFrame s t)

/-- ADD HL,rr in all 4 forms: H is the carry out of bit 11, C the carry out of bit 15, N is cleared and Z kept. -/
def Obligations.AddToHL : Prop :=
  ∀ (p : Pair) (s : State),
    let x := s.hl.toNat
    let y := (s.pair p).toNat
    encode (.addHL p) = [p.code <<< 4 ||| 0x09#8] ∧ ∃ t, exec (.addHL p) s = .next t ∧
      PairBecomes .hl (s.hl + s.pair p) s t ∧
      FlagsBecome s t (s.flag .z) false (decide (x % 0x1000 + y % 0x1000 > 0x0FFF)) (decide (x + y > 0xFFFF)) ∧
      Advances (.addHL p) 0 s t ∧ CoreFrame s t

/-! ### Rotates, decimal adjust and flag operations -/

/-- RLCA, RRCA, RLA and RRA: the result as a number, Z cleared whatever it is, and C the bit that left A. -/
def Obligations.AccumulatorRotates : Prop :=
  ∀ s : State,
    let a := s.a.toNat
    let c := (s.flag .c).toNat
    (encode .rlca = [0x07] ∧ AccBecomes .rlca (a * 2 % 256 + a / 128) false false false (decide (a / 128 = 1)) 0 s) ∧
    (encode .rrca = [0x0F] ∧ AccBecomes .rrca (a / 2 + a % 2 * 128) false false false (decide (a % 2 = 1)) 0 s) ∧
    (encode .rla = [0x17] ∧ AccBecomes .rla (a * 2 % 256 + c) false false false (decide (a / 128 = 1)) 0 s) ∧
    (encode .rra = [0x1F] ∧ AccBecomes .rra (a / 2 + c * 128) false false false (decide (a % 2 = 1)) 0 s)

/-- DAA, step by step as the rule writes it: the first adjustment, then the second, whose test reads the byte after the
first. -/
def Obligations.DecimalAdjust : Prop :=
  ∀ s : State,
    let a := s.a.toNat
    let high := if s.flag .n then s.flag .c else s.flag .c || decide (a > 0x99)
    let a1 := if high then (if s.flag .n then a + 256 - 0x60 else a + 0x60) % 256 else a
    let low := if s.flag .n then s.flag .h else s.flag .h || decide (a1 % 16 > 0x09)
    let a2 := if low then (if s.flag .n then a1 + 256 - 0x06 else a1 + 0x06) % 256 else a1
    encode .daa = [0x27] ∧ AccBecomes .daa a2 (decide (a2 = 0)) (s.flag .n) false high 0 s

/-- What DAA is for: after ADD or ADC of two packed decimal bytes it leaves the packed decimal sum modulo 100 and the
decimal carry, after SUB or SBC the difference and the borrow. -/
def Obligations.DecimalArithmetic : Prop :=
  ∀ (x y : Nat) (s : State), x < 100 → y < 100 → s.a = bcd x → s.b = bcd y →
    let c := (s.flag .c).toNat
    (∃ m t, exec .add_A_B s = .next m ∧ exec .daa m = .next t ∧ t.a = bcd ((x + y) % 100) ∧
      t.flag .c = decide (x + y ≥ 100)) ∧
    (∃ m t, exec .adc_A_B s = .next m ∧ exec .daa m = .next t ∧ t.a = bcd ((x + y + c) % 100) ∧
      t.flag .c = decide (x + y + c ≥ 100)) ∧
    (∃ m t, exec .sub_B s = .next m ∧ exec .daa m = .next t ∧ t.a = bcd ((x + 100 - y) % 100) ∧
      t.flag .c = decide (x < y)) ∧
    (∃ m t, exec .sbc_A_B s = .next m ∧ exec .daa m = .next t ∧ t.a = bcd ((x + 200 - y - c) % 100) ∧
      t.flag .c = decide (x < y + c))

/-- CPL, SCF and CCF, with the flags each keeps. -/
def Obligations.CplScfAndCcf : Prop :=
  ∀ s : State,
    (encode .cpl = [0x2F] ∧ AccBecomes .cpl (255 - s.a.toNat) (s.flag .z) true true (s.flag .c) 0 s) ∧
    (encode .scf = [0x37] ∧ AccBecomes .scf s.a.toNat (s.flag .z) false false true 0 s) ∧
    (encode .ccf = [0x3F] ∧ AccBecomes .ccf s.a.toNat (s.flag .z) false false (!s.flag .c) 0 s)

/-! ### Control transfer -/

/-- JR, JR cc, JP, JP cc and JP HL: the target is reckoned from the address after the instruction, a conditional that is
not taken goes there, and it costs the extra ticks only when taken. -/
def Obligations.Jumps : Prop :=
  ∀ (cc : Cond) (e : Byte) (a : Word) (s : State),
    let relative := BitVec.ofInt 16 (s.pc.toNat + 1 + e.toInt)
    let holds := condHolds cc s
    (encode (.jr_e8 e) = [0x18, e] ∧ JumpsTo (.jr_e8 e) false relative s) ∧
    (encode (.jrIf cc e) = [0x20#8 ||| cc.code <<< 3, e] ∧
      JumpsTo (.jrIf cc e) holds (if holds then relative else s.pc + 1) s) ∧
    (encode (.jp_a16 a) = [0xC3, loByte a, hiByte a] ∧ JumpsTo (.jp_a16 a) false a s) ∧
    (encode (.jpIf cc a) = [0xC2#8 ||| cc.code <<< 3, loByte a, hiByte a] ∧
      JumpsTo (.jpIf cc a) holds (if holds then a else s.pc + 2) s) ∧
    (encode .jp_HL = [0xE9] ∧ JumpsTo .jp_HL false (concat s.h s.l) s)

/-- CALL, CALL cc and RST: the address after the instruction is pushed, low byte at the new SP; a call that is not taken
neither pushes nor faults. -/
def Obligations.CallsAndRestarts : Prop :=
  ∀ (cc : Cond) (a : Word) (y : Fin 8) (s : State), s.mem.wf →
    let holds := condHolds cc s
    (encode (.call_a16 a) = [0xCD, loByte a, hiByte a] ∧ Calls (.call_a16 a) false a 2 s) ∧
    (encode (.callIf cc a) = [0xC4#8 ||| cc.code <<< 3, loByte a, hiByte a] ∧
      (holds = true → Calls (.callIf cc a) true a 2 s) ∧
      (holds = false → JumpsTo (.callIf cc a) false (s.pc + 2) s)) ∧
    (encode (.rst y) = [0xC7#8 ||| BitVec.ofNat 8 y.val <<< 3] ∧
      Calls (.rst y) false (BitVec.ofNat 16 (y.val * 8)) 0 s)

/-- RET, RET cc and RETI: PC is popped, IME is set by RETI alone. -/
def Obligations.ReturnsFromCalls : Prop :=
  ∀ (cc : Cond) (s : State),
    let holds := condHolds cc s
    (encode .ret = [0xC9] ∧ Returns .ret false s) ∧
    (encode (.retIf cc) = [0xC0#8 ||| cc.code <<< 3] ∧ (holds = true → Returns (.retIf cc) true s) ∧
      (holds = false → JumpsTo (.retIf cc) false s.pc s)) ∧
    (encode .reti = [0xD9] ∧ ∃ t, exec .reti s = .next t ∧ t.ime = true ∧
      t.pc = concat (s.readByte (s.sp + 1)) (s.readByte s.sp) ∧ t.sp = s.sp + 2 ∧ RegsKept s t ∧ t.f = s.f ∧
      t.ticks = s.ticks + cost 0xD9 false ∧ CoreFrame { s with ime := true } t)

/-! ### System instructions -/

/-- NOP, HALT, STOP, DI and EI: each changes what its rule names and nothing else but PC and the ticks. HALT does
nothing, whatever IME is. HALT, STOP, DI and EI follow the spec's decisions D17, D18, D24 and D35. -/
def Obligations.SystemInstructions : Prop :=
  ∀ (n : Byte) (s : State),
    (encode .nop = [0x00] ∧ exec .nop s = .next { s with ticks := s.ticks + 2 }) ∧
    (encode .halt = [0x76] ∧ exec .halt s = .next { s with ticks := s.ticks + cost 0x76 false }) ∧
    (encode (.stop n) = [0x10, n] ∧
      exec (.stop n) s = .next { s with pc := s.pc + 1, stopped := true, ticks := s.ticks + cost 0x10 false }) ∧
    (encode .di = [0xF3] ∧ exec .di s = .next { s with ime := false, ticks := s.ticks + cost 0xF3 false }) ∧
    (encode .ei = [0xFB] ∧ exec .ei s = .next { s with ime := true, ticks := s.ticks + cost 0xFB false })

/-- The twelve bytes with no handler: the address of the opcode and the opcode are logged, the sticky mark is set, no
ticks are added, and nothing else changes (92_eei_decisions.md D2; that this is a next state and no refusal is log entry
7). -/
def Obligations.UnsupportedOpcodes : Prop :=
  ∀ (i : Instr) (op : Byte) (s : State), (i, op) ∈
      [(Instr.prefix_CB, 0xCB#8), (.unsupported_D3, 0xD3), (.unsupported_DB, 0xDB), (.unsupported_DD, 0xDD),
        (.unsupported_E3, 0xE3), (.unsupported_E4, 0xE4), (.unsupported_EB, 0xEB), (.unsupported_EC, 0xEC),
        (.unsupported_ED, 0xED), (.unsupported_F4, 0xF4), (.unsupported_FC, 0xFC), (.unsupported_FD, 0xFD)] →
    encode i = [op] ∧
    exec i s = .next { s with log := s.log ++ [{ pc := s.pc - 1, opcode := op }], unsupportedSeen := true }

/-! ### Whole-machine rules -/

/-- What an instruction can change outside the registers and memory: IME only by EI, DI and RETI; the stopped latch only
by STOP, which sets it; the log and its mark only by an unsupported opcode; the display timer's fields and the fatal
mark by none. F changes only by the instructions whose rules list flags. -/
def Obligations.OnlyNamedInstructionsChangeControlState : Prop :=
  ∀ (i : Instr) (s t : State), exec i s = .next t →
    (t.ime ≠ s.ime → i = .ei ∨ i = .di ∨ i = .reti) ∧
    (t.stopped ≠ s.stopped → t.stopped = true ∧ ∃ n, i = .stop n) ∧
    (t.unsupportedSeen ≠ s.unsupportedSeen ∨ t.log ≠ s.log → ∃ op, (i, op) ∈ Instr.unsupportedList) ∧
    (t.mode = s.mode ∧ t.line = s.line ∧ t.acc = s.acc ∧ t.timerSeen = s.timerSeen ∧ t.fatal = s.fatal) ∧
    (t.f ≠ s.f → (∃ op src, i = .alu op src) ∨ (∃ r, i = .incReg r ∨ i = .decReg r) ∨ i = .inc_atHL ∨ i = .dec_atHL ∨
      (∃ p, i = .addHL p) ∨ (∃ e, i = .add_SP_e8 e ∨ i = .ld_HL_SPe8 e) ∨ i = .pop_AF ∨ i = .rlca ∨ i = .rrca ∨
      i = .rla ∨ i = .rra ∨ i = .daa ∨ i = .cpl ∨ i = .scf ∨ i = .ccf)

/-- The interrupt phase: nothing while IME is clear or no enabled source is pending; else the dispatch of the pending
enabled source with the lowest bit, to its vector, with its pending bit cleared, PC pushed, IME cleared and 12 ticks
added. A push into ROM is fatal with the pending bit already clear, and IME, PC and the ticks as they were. The bits
considered and the order of the entry are the spec's decisions D9 and D19. -/
def Obligations.InterruptPhase : Prop :=
  ∀ s : State, s.mem.wf →
    let m := s.ie &&& s.ifl &&& 0x1F#8
    (s.ime = false ∨ m = 0#8 → interruptStep s = .next s) ∧
    ∀ k < 5, s.ime = true → m.getLsbD k = true → (∀ j < k, m.getLsbD j = false) →
      let cleared : State := { s with ifl := s.ifl &&& ~~~(1#8 <<< k) }
      (ShortWritable (s.sp - 2) → ∃ t, interruptStep s = .next t ∧ ShortStored (s.sp - 2) s.pc cleared t ∧
        RegsKept s t ∧ t.f = s.f ∧ t.sp = s.sp - 2 ∧ t.ime = false ∧ t.pc = BitVec.ofNat 16 (0x0040 + 8 * k) ∧
        t.ticks = s.ticks + 12 ∧ StoreFrame { s with ime := false } t) ∧
      ((s.sp - 2).toNat ≤ 0x7FFF → interruptStep s = .fault (.fatal (.romWrite (s.sp - 2) (loByte s.pc))
        { cleared with sp := s.sp - 2, fatal := some (.romWrite (s.sp - 2) (loByte s.pc)) })) ∧
      (s.sp = 1 → interruptStep s = .fault (.fatal (.romWrite 0 (hiByte s.pc))
        { cleared with sp := 0xFFFF, ie := loByte s.pc, fatal := some (.romWrite 0 (hiByte s.pc)) }))

/-- EI takes effect in its own step: with vertical-blank enabled and pending, the step that runs EI dispatches it, with
the address after EI pushed, and IME is clear again. DI does too: the step that runs DI dispatches nothing. Both are the
spec's decision D24. -/
def Obligations.EiAndDiActInTheirOwnStep : Prop :=
  ∀ s : State, s.mem.wf → s.fatal = none → s.stopped = false →
    (s.readByte s.pc = 0xFB → s.ie.getLsbD 0 = true → s.ifl.getLsbD 0 = true → ShortWritable (s.sp - 2) →
      ∃ t, step s = .next t ∧ t.pc = 0x0040 ∧ t.ime = false ∧ t.sp = s.sp - 2 ∧
        t.ticks = s.ticks + cost 0xFB false + 12 ∧
        (s.sp - 2 ≠ 0xFF44 → s.sp - 1 ≠ 0xFF44 → t.readShort t.sp = s.pc + 1)) ∧
    (s.readByte s.pc = 0xF3 →
      ∃ t, step s = .next t ∧ t.pc = s.pc + 1 ∧ t.sp = s.sp ∧ t.ime = false ∧ t.ticks = s.ticks + cost 0xF3 false)

/-! ### The display timer -/

/-- The timer phase does what the loop of the rules does, and no other outcome of that loop exists; it changes the
timer's fields and IF, and nothing else, and leaves the accumulator below the threshold of the mode. The comparison, the
request and the wrap are the spec's decisions D14, D15 and D16. -/
def Obligations.TimerPhaseFollowsRules : Prop :=
  ∀ s : State, s.timerSeen ≤ s.ticks →
    let t := timerPhase s
    let acc := s.acc + (s.ticks - s.timerSeen)
    TimerRuns s.ie s.mode s.line acc s.ifl t.mode t.line t.acc t.ifl ∧
    (∀ m line acc' ifl, TimerRuns s.ie s.mode s.line acc s.ifl m line acc' ifl →
      m = t.mode ∧ line = t.line ∧ acc' = t.acc ∧ ifl = t.ifl) ∧
    t.acc < threshold t.mode ∧
    t = { s with mode := t.mode, line := t.line, acc := t.acc, ifl := t.ifl, timerSeen := s.ticks }

/-- The display advances by the ticks it is fed, around a frame of 69,768 ticks: 153 lines of 456. The spec marks R546
as its own inference. -/
def Obligations.FrameAdvancesByTicks : Prop :=
  ∀ s : State, s.timerSeen ≤ s.ticks → lineFitsMode s.mode s.line → s.acc < threshold s.mode →
    let t := timerPhase s
    framePosition t.mode t.line t.acc < frameTicks ∧
    framePosition t.mode t.line t.acc = (framePosition s.mode s.line s.acc + (s.ticks - s.timerSeen)) % frameTicks

/-- Every step keeps the display where the ticks put it: from a state that meets the invariant and whose position in the
frame is 252 plus the ticks the timer has seen, modulo 69,768, every next state of a step is such a state. The state right
after reset is one: horizontal-blank of line 0 starts at 252. The spec marks R546 as its own inference. -/
def Obligations.EveryStepKeepsDisplayPosition : Prop :=
  (State.reset.Inv ∧ State.reset.displayFollowsTicks) ∧
  ∀ s t : State, s.Inv → s.displayFollowsTicks → step s = .next t → t.Inv ∧ t.displayFollowsTicks
end

