-- ==== Sys2Proof/Laws/Bits.lean ====
section
/-! SUPPORT. The laws of the bit helpers. -/

namespace Sys2Proof.Laws

theorem concat_toNat (hi lo : Byte) : (concat hi lo).toNat = hi.toNat * 256 + lo.toNat := by
  unfold concat
  rw [BitVec.toNat_append, ← Nat.shiftLeft_add_eq_or_of_lt lo.isLt, Nat.shiftLeft_eq]

theorem loByte_toNat (v : Word) : (loByte v).toNat = v.toNat % 256 := by
  simp [loByte]

theorem hiByte_toNat (v : Word) : (hiByte v).toNat = v.toNat / 256 := by
  have := v.isLt
  simp [hiByte, Nat.shiftRight_eq_div_pow]
  omega

@[simp] theorem concat_hiByte_loByte (v : Word) : concat (hiByte v) (loByte v) = v := by
  apply BitVec.eq_of_toNat_eq
  rw [concat_toNat, hiByte_toNat, loByte_toNat]
  omega

@[simp] theorem hiByte_concat (hi lo : Byte) : hiByte (concat hi lo) = hi := by
  apply BitVec.eq_of_toNat_eq
  rw [hiByte_toNat, concat_toNat]
  have := lo.isLt
  omega

@[simp] theorem loByte_concat (hi lo : Byte) : loByte (concat hi lo) = lo := by
  apply BitVec.eq_of_toNat_eq
  rw [loByte_toNat, concat_toNat]
  have := lo.isLt
  omega

theorem zext16_toNat (n : Byte) : (zext16 n).toNat = n.toNat := by
  have := n.isLt
  simp [zext16]
  omega

/-- One bit changes, and no other. -/
theorem getLsbD_withBit (f : Byte) (k : Nat) (hk : k < 8) (v : Bool) (j : Nat) :
    (withBit f k v).getLsbD j = if j = k then v else f.getLsbD j := by
  unfold withBit
  by_cases hj : j < 8
  · cases v <;> simp [hj]
    · by_cases h : j = k
      · simp [h]
      · by_cases h2 : j < k
        · simp [h, h2]
        · have : j - k ≠ 0 := by omega
          simp [h, this]
    · by_cases h : j = k
      · subst h; simp
      · by_cases h2 : j < k
        · simp [h, h2]
        · have : j - k ≠ 0 := by omega
          simp [h, this]
  · have : ¬ j = k := by omega
    rw [if_neg this, BitVec.getLsbD_of_ge _ _ (by omega), BitVec.getLsbD_of_ge _ _ (by omega)]

/-- Bits below the changed one stay, as a field. -/
theorem withBit_and_low (f : Byte) (k : Nat) (hk : k < 8) (hk4 : 4 ≤ k) (v : Bool) :
    withBit f k v &&& 0x0F#8 = f &&& 0x0F#8 := by
  apply BitVec.eq_of_getLsbD_eq
  intro j hj
  rw [BitVec.getLsbD_and, BitVec.getLsbD_and, getLsbD_withBit f k hk]
  by_cases h : j = k
  · subst h
    have : (0x0F#8).getLsbD j = false := by
      have : ∀ i : Fin 8, 4 ≤ i.val → (0x0F#8).getLsbD i.val = false := by decide
      exact this ⟨j, hj⟩ hk4
    simp [this]
  · simp [h]

end Sys2Proof.Laws
end

