-- ==== Sys2Proof/Laws/Memory.lean ====
section
/-! SUPPORT. The laws of the cell list: read over write, the canonical form is kept, equal reads make equal lists. -/

namespace Sys2Proof.Laws

open Sys2Proof.Machine

/-- Every key of the list is above `k`. -/
def KeysAbove (k : Nat) (m : Memory) : Prop := ∀ x ∈ m, k < x.1

theorem read_eq_unlisted_of_keysAbove {m : Memory} {k : Nat} (h : KeysAbove k m) : m.read k = Memory.unlisted := by
  induction m with
  | nil => rfl
  | cons x m ih =>
    have hx : k < x.1 := h x (List.mem_cons_self ..)
    have hne : x.1 ≠ k := by omega
    simp only [Memory.read, if_neg hne]
    exact ih fun y hy => h y (List.mem_cons_of_mem _ hy)

theorem wf_nil : Memory.wf [] := ⟨List.Pairwise.nil, fun _ h => absurd h (List.not_mem_nil)⟩

theorem wf_cons {x : Host.Cell} {m : Memory} :
    Memory.wf (x :: m) ↔ KeysAbove x.1 m ∧ (x.2 ≠ Memory.unlisted ∧ Memory.isKey x.1 = true) ∧ Memory.wf m := by
  constructor
  · rintro ⟨hp, hv⟩
    rw [List.pairwise_cons] at hp
    exact ⟨hp.1, hv x (List.mem_cons_self ..), hp.2, fun y hy => hv y (List.mem_cons_of_mem _ hy)⟩
  · rintro ⟨ha, hx, hp, hv⟩
    refine ⟨List.pairwise_cons.2 ⟨ha, hp⟩, fun y hy => ?_⟩
    rcases List.mem_cons.1 hy with rfl | hy
    · exact hx
    · exact hv y hy

/-- A key of the written list is the written key or was there before. -/
theorem mem_write {m : Memory} {k : Nat} {v : Byte} {y : Host.Cell} (h : y ∈ m.write k v) :
    y = (k, v) ∨ y ∈ m := by
  induction m with
  | nil =>
    simp only [Memory.write] at h
    split at h <;> simp_all
  | cons x m ih =>
    simp only [Memory.write] at h
    split at h
    · rcases List.mem_cons.1 h with rfl | h
      · exact .inr (List.mem_cons_self ..)
      · exact (ih h).imp id (List.mem_cons_of_mem _)
    · split at h <;> split at h <;> first | (simp_all; done) | (simp_all; tauto)

/-- Every write keeps the canonical form. -/
theorem write_wf {m : Memory} (h : m.wf) {k : Nat} (hk : Memory.isKey k = true) (v : Byte) : (m.write k v).wf := by
  induction m with
  | nil =>
    simp only [Memory.write]
    split
    · exact wf_nil
    · next hv => exact wf_cons.2 ⟨fun _ h => absurd h (List.not_mem_nil), ⟨hv, hk⟩, wf_nil⟩
  | cons x m ih =>
    obtain ⟨ha, hx, hm⟩ := wf_cons.1 h
    simp only [Memory.write]
    split
    · next hlt =>
      refine wf_cons.2 ⟨fun y hy => ?_, hx, ih hm⟩
      rcases mem_write hy with rfl | hy
      · exact hlt
      · exact ha y hy
    · next hge =>
      split
      · next heq =>
        split
        · exact hm
        · next hv => exact wf_cons.2 ⟨heq ▸ ha, ⟨hv, hk⟩, hm⟩
      · next hne =>
        split
        · exact h
        · next hv =>
          refine wf_cons.2 ⟨fun y hy => ?_, ⟨hv, hk⟩, h⟩
          rcases List.mem_cons.1 hy with rfl | hy
          · change k < y.1
            omega
          · have := ha y hy
            change k < y.1
            omega

/-- A read after a write: the written key gives the written byte, every other key what it gave before. The list need
only be in canonical form. -/
theorem read_write {m : Memory} (h : m.wf) (k : Nat) (v : Byte) (j : Nat) :
    (m.write k v).read j = if j = k then v else m.read j := by
  induction m with
  | nil =>
    simp only [Memory.write]
    split
    · next hv => split <;> simp [Memory.read, hv]
    · simp only [Memory.read]
      split <;> split <;> first | rfl | omega
  | cons x m ih =>
    obtain ⟨ha, hx, hm⟩ := wf_cons.1 h
    simp only [Memory.write]
    split
    · next hlt =>
      simp only [Memory.read, ih hm]
      split
      · split <;> first | rfl | omega
      · rfl
    · next hge =>
      split
      · next heq =>
        split
        · next hv =>
          by_cases hj : j = k
          · subst hj
            rw [if_pos rfl, hv]
            exact read_eq_unlisted_of_keysAbove (heq ▸ ha)
          · have hne : x.1 ≠ j := by omega
            rw [if_neg hj, Memory.read, if_neg hne]
        · simp only [Memory.read, heq]
          by_cases hj : j = k
          · subst hj
            rw [if_pos rfl, if_pos rfl]
          · rw [if_neg (Ne.symm hj), if_neg hj, if_neg (Ne.symm hj)]
      · next hne =>
        split
        · next hv =>
          by_cases hj : j = k
          · subst hj
            rw [if_pos rfl, hv]
            refine read_eq_unlisted_of_keysAbove fun y hy => ?_
            rcases List.mem_cons.1 hy with rfl | hy
            · omega
            · have := ha y hy
              omega
          · rw [if_neg hj]
        · simp only [Memory.read]
          by_cases hj : j = k
          · subst hj
            simp
          · rw [if_neg (Ne.symm hj), if_neg hj]

end Sys2Proof.Laws
end

