-- ==== Sys2Proof/Laws/State.lean ====
section
/-! SUPPORT. One lemma per field and update of State, and the read-over-write laws of the registers and flags. -/

namespace Sys2Proof.Laws

open Sys2Proof.Machine

@[simp] theorem setFlag_a (s : State) (k : Flag) (v : Bool) : (s.setFlag k v).a = s.a := rfl
@[simp] theorem setFlag_b (s : State) (k : Flag) (v : Bool) : (s.setFlag k v).b = s.b := rfl
@[simp] theorem setFlag_c (s : State) (k : Flag) (v : Bool) : (s.setFlag k v).c = s.c := rfl
@[simp] theorem setFlag_d (s : State) (k : Flag) (v : Bool) : (s.setFlag k v).d = s.d := rfl
@[simp] theorem setFlag_e (s : State) (k : Flag) (v : Bool) : (s.setFlag k v).e = s.e := rfl
@[simp] theorem setFlag_h (s : State) (k : Flag) (v : Bool) : (s.setFlag k v).h = s.h := rfl
@[simp] theorem setFlag_l (s : State) (k : Flag) (v : Bool) : (s.setFlag k v).l = s.l := rfl
@[simp] theorem setFlag_sp (s : State) (k : Flag) (v : Bool) : (s.setFlag k v).sp = s.sp := rfl
@[simp] theorem setFlag_pc (s : State) (k : Flag) (v : Bool) : (s.setFlag k v).pc = s.pc := rfl
@[simp] theorem setFlag_ime (s : State) (k : Flag) (v : Bool) : (s.setFlag k v).ime = s.ime := rfl
@[simp] theorem setFlag_ie (s : State) (k : Flag) (v : Bool) : (s.setFlag k v).ie = s.ie := rfl
@[simp] theorem setFlag_ifl (s : State) (k : Flag) (v : Bool) : (s.setFlag k v).ifl = s.ifl := rfl
@[simp] theorem setFlag_mode (s : State) (k : Flag) (v : Bool) : (s.setFlag k v).mode = s.mode := rfl
@[simp] theorem setFlag_line (s : State) (k : Flag) (v : Bool) : (s.setFlag k v).line = s.line := rfl
@[simp] theorem setFlag_acc (s : State) (k : Flag) (v : Bool) : (s.setFlag k v).acc = s.acc := rfl
@[simp] theorem setFlag_ticks (s : State) (k : Flag) (v : Bool) : (s.setFlag k v).ticks = s.ticks := rfl
@[simp] theorem setFlag_timerSeen (s : State) (k : Flag) (v : Bool) : (s.setFlag k v).timerSeen = s.timerSeen := rfl
@[simp] theorem setFlag_lcdc (s : State) (k : Flag) (v : Bool) : (s.setFlag k v).lcdc = s.lcdc := rfl
@[simp] theorem setFlag_scy (s : State) (k : Flag) (v : Bool) : (s.setFlag k v).scy = s.scy := rfl
@[simp] theorem setFlag_scx (s : State) (k : Flag) (v : Bool) : (s.setFlag k v).scx = s.scx := rfl
@[simp] theorem setFlag_dma (s : State) (k : Flag) (v : Bool) : (s.setFlag k v).dma = s.dma := rfl
@[simp] theorem setFlag_stopped (s : State) (k : Flag) (v : Bool) : (s.setFlag k v).stopped = s.stopped := rfl
@[simp] theorem setFlag_fatal (s : State) (k : Flag) (v : Bool) : (s.setFlag k v).fatal = s.fatal := rfl
@[simp] theorem setFlag_unsupportedSeen (s : State) (k : Flag) (v : Bool) : (s.setFlag k v).unsupportedSeen = s.unsupportedSeen := rfl
@[simp] theorem setFlag_log (s : State) (k : Flag) (v : Bool) : (s.setFlag k v).log = s.log := rfl
@[simp] theorem setFlag_mem (s : State) (k : Flag) (v : Bool) : (s.setFlag k v).mem = s.mem := rfl

@[simp] theorem setFlags_a (s : State) (v : FlagVals) : (s.setFlags v).a = s.a := rfl
@[simp] theorem setFlags_b (s : State) (v : FlagVals) : (s.setFlags v).b = s.b := rfl
@[simp] theorem setFlags_c (s : State) (v : FlagVals) : (s.setFlags v).c = s.c := rfl
@[simp] theorem setFlags_d (s : State) (v : FlagVals) : (s.setFlags v).d = s.d := rfl
@[simp] theorem setFlags_e (s : State) (v : FlagVals) : (s.setFlags v).e = s.e := rfl
@[simp] theorem setFlags_h (s : State) (v : FlagVals) : (s.setFlags v).h = s.h := rfl
@[simp] theorem setFlags_l (s : State) (v : FlagVals) : (s.setFlags v).l = s.l := rfl
@[simp] theorem setFlags_sp (s : State) (v : FlagVals) : (s.setFlags v).sp = s.sp := rfl
@[simp] theorem setFlags_pc (s : State) (v : FlagVals) : (s.setFlags v).pc = s.pc := rfl
@[simp] theorem setFlags_ime (s : State) (v : FlagVals) : (s.setFlags v).ime = s.ime := rfl
@[simp] theorem setFlags_ie (s : State) (v : FlagVals) : (s.setFlags v).ie = s.ie := rfl
@[simp] theorem setFlags_ifl (s : State) (v : FlagVals) : (s.setFlags v).ifl = s.ifl := rfl
@[simp] theorem setFlags_mode (s : State) (v : FlagVals) : (s.setFlags v).mode = s.mode := rfl
@[simp] theorem setFlags_line (s : State) (v : FlagVals) : (s.setFlags v).line = s.line := rfl
@[simp] theorem setFlags_acc (s : State) (v : FlagVals) : (s.setFlags v).acc = s.acc := rfl
@[simp] theorem setFlags_ticks (s : State) (v : FlagVals) : (s.setFlags v).ticks = s.ticks := rfl
@[simp] theorem setFlags_timerSeen (s : State) (v : FlagVals) : (s.setFlags v).timerSeen = s.timerSeen := rfl
@[simp] theorem setFlags_lcdc (s : State) (v : FlagVals) : (s.setFlags v).lcdc = s.lcdc := rfl
@[simp] theorem setFlags_scy (s : State) (v : FlagVals) : (s.setFlags v).scy = s.scy := rfl
@[simp] theorem setFlags_scx (s : State) (v : FlagVals) : (s.setFlags v).scx = s.scx := rfl
@[simp] theorem setFlags_dma (s : State) (v : FlagVals) : (s.setFlags v).dma = s.dma := rfl
@[simp] theorem setFlags_stopped (s : State) (v : FlagVals) : (s.setFlags v).stopped = s.stopped := rfl
@[simp] theorem setFlags_fatal (s : State) (v : FlagVals) : (s.setFlags v).fatal = s.fatal := rfl
@[simp] theorem setFlags_unsupportedSeen (s : State) (v : FlagVals) : (s.setFlags v).unsupportedSeen = s.unsupportedSeen := rfl
@[simp] theorem setFlags_log (s : State) (v : FlagVals) : (s.setFlags v).log = s.log := rfl
@[simp] theorem setFlags_mem (s : State) (v : FlagVals) : (s.setFlags v).mem = s.mem := rfl

@[simp] theorem incFlags_a (s : State) (v : Byte) : (s.incFlags v).a = s.a := rfl
@[simp] theorem incFlags_b (s : State) (v : Byte) : (s.incFlags v).b = s.b := rfl
@[simp] theorem incFlags_c (s : State) (v : Byte) : (s.incFlags v).c = s.c := rfl
@[simp] theorem incFlags_d (s : State) (v : Byte) : (s.incFlags v).d = s.d := rfl
@[simp] theorem incFlags_e (s : State) (v : Byte) : (s.incFlags v).e = s.e := rfl
@[simp] theorem incFlags_h (s : State) (v : Byte) : (s.incFlags v).h = s.h := rfl
@[simp] theorem incFlags_l (s : State) (v : Byte) : (s.incFlags v).l = s.l := rfl
@[simp] theorem incFlags_sp (s : State) (v : Byte) : (s.incFlags v).sp = s.sp := rfl
@[simp] theorem incFlags_pc (s : State) (v : Byte) : (s.incFlags v).pc = s.pc := rfl
@[simp] theorem incFlags_ime (s : State) (v : Byte) : (s.incFlags v).ime = s.ime := rfl
@[simp] theorem incFlags_ie (s : State) (v : Byte) : (s.incFlags v).ie = s.ie := rfl
@[simp] theorem incFlags_ifl (s : State) (v : Byte) : (s.incFlags v).ifl = s.ifl := rfl
@[simp] theorem incFlags_mode (s : State) (v : Byte) : (s.incFlags v).mode = s.mode := rfl
@[simp] theorem incFlags_line (s : State) (v : Byte) : (s.incFlags v).line = s.line := rfl
@[simp] theorem incFlags_acc (s : State) (v : Byte) : (s.incFlags v).acc = s.acc := rfl
@[simp] theorem incFlags_ticks (s : State) (v : Byte) : (s.incFlags v).ticks = s.ticks := rfl
@[simp] theorem incFlags_timerSeen (s : State) (v : Byte) : (s.incFlags v).timerSeen = s.timerSeen := rfl
@[simp] theorem incFlags_lcdc (s : State) (v : Byte) : (s.incFlags v).lcdc = s.lcdc := rfl
@[simp] theorem incFlags_scy (s : State) (v : Byte) : (s.incFlags v).scy = s.scy := rfl
@[simp] theorem incFlags_scx (s : State) (v : Byte) : (s.incFlags v).scx = s.scx := rfl
@[simp] theorem incFlags_dma (s : State) (v : Byte) : (s.incFlags v).dma = s.dma := rfl
@[simp] theorem incFlags_stopped (s : State) (v : Byte) : (s.incFlags v).stopped = s.stopped := rfl
@[simp] theorem incFlags_fatal (s : State) (v : Byte) : (s.incFlags v).fatal = s.fatal := rfl
@[simp] theorem incFlags_unsupportedSeen (s : State) (v : Byte) : (s.incFlags v).unsupportedSeen = s.unsupportedSeen := rfl
@[simp] theorem incFlags_log (s : State) (v : Byte) : (s.incFlags v).log = s.log := rfl
@[simp] theorem incFlags_mem (s : State) (v : Byte) : (s.incFlags v).mem = s.mem := rfl

@[simp] theorem decFlags_a (s : State) (v : Byte) : (s.decFlags v).a = s.a := rfl
@[simp] theorem decFlags_b (s : State) (v : Byte) : (s.decFlags v).b = s.b := rfl
@[simp] theorem decFlags_c (s : State) (v : Byte) : (s.decFlags v).c = s.c := rfl
@[simp] theorem decFlags_d (s : State) (v : Byte) : (s.decFlags v).d = s.d := rfl
@[simp] theorem decFlags_e (s : State) (v : Byte) : (s.decFlags v).e = s.e := rfl
@[simp] theorem decFlags_h (s : State) (v : Byte) : (s.decFlags v).h = s.h := rfl
@[simp] theorem decFlags_l (s : State) (v : Byte) : (s.decFlags v).l = s.l := rfl
@[simp] theorem decFlags_sp (s : State) (v : Byte) : (s.decFlags v).sp = s.sp := rfl
@[simp] theorem decFlags_pc (s : State) (v : Byte) : (s.decFlags v).pc = s.pc := rfl
@[simp] theorem decFlags_ime (s : State) (v : Byte) : (s.decFlags v).ime = s.ime := rfl
@[simp] theorem decFlags_ie (s : State) (v : Byte) : (s.decFlags v).ie = s.ie := rfl
@[simp] theorem decFlags_ifl (s : State) (v : Byte) : (s.decFlags v).ifl = s.ifl := rfl
@[simp] theorem decFlags_mode (s : State) (v : Byte) : (s.decFlags v).mode = s.mode := rfl
@[simp] theorem decFlags_line (s : State) (v : Byte) : (s.decFlags v).line = s.line := rfl
@[simp] theorem decFlags_acc (s : State) (v : Byte) : (s.decFlags v).acc = s.acc := rfl
@[simp] theorem decFlags_ticks (s : State) (v : Byte) : (s.decFlags v).ticks = s.ticks := rfl
@[simp] theorem decFlags_timerSeen (s : State) (v : Byte) : (s.decFlags v).timerSeen = s.timerSeen := rfl
@[simp] theorem decFlags_lcdc (s : State) (v : Byte) : (s.decFlags v).lcdc = s.lcdc := rfl
@[simp] theorem decFlags_scy (s : State) (v : Byte) : (s.decFlags v).scy = s.scy := rfl
@[simp] theorem decFlags_scx (s : State) (v : Byte) : (s.decFlags v).scx = s.scx := rfl
@[simp] theorem decFlags_dma (s : State) (v : Byte) : (s.decFlags v).dma = s.dma := rfl
@[simp] theorem decFlags_stopped (s : State) (v : Byte) : (s.decFlags v).stopped = s.stopped := rfl
@[simp] theorem decFlags_fatal (s : State) (v : Byte) : (s.decFlags v).fatal = s.fatal := rfl
@[simp] theorem decFlags_unsupportedSeen (s : State) (v : Byte) : (s.decFlags v).unsupportedSeen = s.unsupportedSeen := rfl
@[simp] theorem decFlags_log (s : State) (v : Byte) : (s.decFlags v).log = s.log := rfl
@[simp] theorem decFlags_mem (s : State) (v : Byte) : (s.decFlags v).mem = s.mem := rfl

@[simp] theorem setReg_f (s : State) (r : Reg) (v : Byte) : (s.setReg r v).f = s.f := by cases r <;> rfl
@[simp] theorem setReg_sp (s : State) (r : Reg) (v : Byte) : (s.setReg r v).sp = s.sp := by cases r <;> rfl
@[simp] theorem setReg_pc (s : State) (r : Reg) (v : Byte) : (s.setReg r v).pc = s.pc := by cases r <;> rfl
@[simp] theorem setReg_ime (s : State) (r : Reg) (v : Byte) : (s.setReg r v).ime = s.ime := by cases r <;> rfl
@[simp] theorem setReg_ie (s : State) (r : Reg) (v : Byte) : (s.setReg r v).ie = s.ie := by cases r <;> rfl
@[simp] theorem setReg_ifl (s : State) (r : Reg) (v : Byte) : (s.setReg r v).ifl = s.ifl := by cases r <;> rfl
@[simp] theorem setReg_mode (s : State) (r : Reg) (v : Byte) : (s.setReg r v).mode = s.mode := by cases r <;> rfl
@[simp] theorem setReg_line (s : State) (r : Reg) (v : Byte) : (s.setReg r v).line = s.line := by cases r <;> rfl
@[simp] theorem setReg_acc (s : State) (r : Reg) (v : Byte) : (s.setReg r v).acc = s.acc := by cases r <;> rfl
@[simp] theorem setReg_ticks (s : State) (r : Reg) (v : Byte) : (s.setReg r v).ticks = s.ticks := by cases r <;> rfl
@[simp] theorem setReg_timerSeen (s : State) (r : Reg) (v : Byte) : (s.setReg r v).timerSeen = s.timerSeen := by cases r <;> rfl
@[simp] theorem setReg_lcdc (s : State) (r : Reg) (v : Byte) : (s.setReg r v).lcdc = s.lcdc := by cases r <;> rfl
@[simp] theorem setReg_scy (s : State) (r : Reg) (v : Byte) : (s.setReg r v).scy = s.scy := by cases r <;> rfl
@[simp] theorem setReg_scx (s : State) (r : Reg) (v : Byte) : (s.setReg r v).scx = s.scx := by cases r <;> rfl
@[simp] theorem setReg_dma (s : State) (r : Reg) (v : Byte) : (s.setReg r v).dma = s.dma := by cases r <;> rfl
@[simp] theorem setReg_stopped (s : State) (r : Reg) (v : Byte) : (s.setReg r v).stopped = s.stopped := by cases r <;> rfl
@[simp] theorem setReg_fatal (s : State) (r : Reg) (v : Byte) : (s.setReg r v).fatal = s.fatal := by cases r <;> rfl
@[simp] theorem setReg_unsupportedSeen (s : State) (r : Reg) (v : Byte) : (s.setReg r v).unsupportedSeen = s.unsupportedSeen := by cases r <;> rfl
@[simp] theorem setReg_log (s : State) (r : Reg) (v : Byte) : (s.setReg r v).log = s.log := by cases r <;> rfl
@[simp] theorem setReg_mem (s : State) (r : Reg) (v : Byte) : (s.setReg r v).mem = s.mem := by cases r <;> rfl

@[simp] theorem setHL_a (s : State) (v : Word) : (s.setHL v).a = s.a := rfl
@[simp] theorem setHL_f (s : State) (v : Word) : (s.setHL v).f = s.f := rfl
@[simp] theorem setHL_b (s : State) (v : Word) : (s.setHL v).b = s.b := rfl
@[simp] theorem setHL_c (s : State) (v : Word) : (s.setHL v).c = s.c := rfl
@[simp] theorem setHL_d (s : State) (v : Word) : (s.setHL v).d = s.d := rfl
@[simp] theorem setHL_e (s : State) (v : Word) : (s.setHL v).e = s.e := rfl
@[simp] theorem setHL_sp (s : State) (v : Word) : (s.setHL v).sp = s.sp := rfl
@[simp] theorem setHL_pc (s : State) (v : Word) : (s.setHL v).pc = s.pc := rfl
@[simp] theorem setHL_ime (s : State) (v : Word) : (s.setHL v).ime = s.ime := rfl
@[simp] theorem setHL_ie (s : State) (v : Word) : (s.setHL v).ie = s.ie := rfl
@[simp] theorem setHL_ifl (s : State) (v : Word) : (s.setHL v).ifl = s.ifl := rfl
@[simp] theorem setHL_mode (s : State) (v : Word) : (s.setHL v).mode = s.mode := rfl
@[simp] theorem setHL_line (s : State) (v : Word) : (s.setHL v).line = s.line := rfl
@[simp] theorem setHL_acc (s : State) (v : Word) : (s.setHL v).acc = s.acc := rfl
@[simp] theorem setHL_ticks (s : State) (v : Word) : (s.setHL v).ticks = s.ticks := rfl
@[simp] theorem setHL_timerSeen (s : State) (v : Word) : (s.setHL v).timerSeen = s.timerSeen := rfl
@[simp] theorem setHL_lcdc (s : State) (v : Word) : (s.setHL v).lcdc = s.lcdc := rfl
@[simp] theorem setHL_scy (s : State) (v : Word) : (s.setHL v).scy = s.scy := rfl
@[simp] theorem setHL_scx (s : State) (v : Word) : (s.setHL v).scx = s.scx := rfl
@[simp] theorem setHL_dma (s : State) (v : Word) : (s.setHL v).dma = s.dma := rfl
@[simp] theorem setHL_stopped (s : State) (v : Word) : (s.setHL v).stopped = s.stopped := rfl
@[simp] theorem setHL_fatal (s : State) (v : Word) : (s.setHL v).fatal = s.fatal := rfl
@[simp] theorem setHL_unsupportedSeen (s : State) (v : Word) : (s.setHL v).unsupportedSeen = s.unsupportedSeen := rfl
@[simp] theorem setHL_log (s : State) (v : Word) : (s.setHL v).log = s.log := rfl
@[simp] theorem setHL_mem (s : State) (v : Word) : (s.setHL v).mem = s.mem := rfl

@[simp] theorem setBC_a (s : State) (v : Word) : (s.setBC v).a = s.a := rfl
@[simp] theorem setBC_f (s : State) (v : Word) : (s.setBC v).f = s.f := rfl
@[simp] theorem setBC_d (s : State) (v : Word) : (s.setBC v).d = s.d := rfl
@[simp] theorem setBC_e (s : State) (v : Word) : (s.setBC v).e = s.e := rfl
@[simp] theorem setBC_h (s : State) (v : Word) : (s.setBC v).h = s.h := rfl
@[simp] theorem setBC_l (s : State) (v : Word) : (s.setBC v).l = s.l := rfl
@[simp] theorem setBC_sp (s : State) (v : Word) : (s.setBC v).sp = s.sp := rfl
@[simp] theorem setBC_pc (s : State) (v : Word) : (s.setBC v).pc = s.pc := rfl
@[simp] theorem setBC_ime (s : State) (v : Word) : (s.setBC v).ime = s.ime := rfl
@[simp] theorem setBC_ie (s : State) (v : Word) : (s.setBC v).ie = s.ie := rfl
@[simp] theorem setBC_ifl (s : State) (v : Word) : (s.setBC v).ifl = s.ifl := rfl
@[simp] theorem setBC_mode (s : State) (v : Word) : (s.setBC v).mode = s.mode := rfl
@[simp] theorem setBC_line (s : State) (v : Word) : (s.setBC v).line = s.line := rfl
@[simp] theorem setBC_acc (s : State) (v : Word) : (s.setBC v).acc = s.acc := rfl
@[simp] theorem setBC_ticks (s : State) (v : Word) : (s.setBC v).ticks = s.ticks := rfl
@[simp] theorem setBC_timerSeen (s : State) (v : Word) : (s.setBC v).timerSeen = s.timerSeen := rfl
@[simp] theorem setBC_lcdc (s : State) (v : Word) : (s.setBC v).lcdc = s.lcdc := rfl
@[simp] theorem setBC_scy (s : State) (v : Word) : (s.setBC v).scy = s.scy := rfl
@[simp] theorem setBC_scx (s : State) (v : Word) : (s.setBC v).scx = s.scx := rfl
@[simp] theorem setBC_dma (s : State) (v : Word) : (s.setBC v).dma = s.dma := rfl
@[simp] theorem setBC_stopped (s : State) (v : Word) : (s.setBC v).stopped = s.stopped := rfl
@[simp] theorem setBC_fatal (s : State) (v : Word) : (s.setBC v).fatal = s.fatal := rfl
@[simp] theorem setBC_unsupportedSeen (s : State) (v : Word) : (s.setBC v).unsupportedSeen = s.unsupportedSeen := rfl
@[simp] theorem setBC_log (s : State) (v : Word) : (s.setBC v).log = s.log := rfl
@[simp] theorem setBC_mem (s : State) (v : Word) : (s.setBC v).mem = s.mem := rfl

@[simp] theorem setDE_a (s : State) (v : Word) : (s.setDE v).a = s.a := rfl
@[simp] theorem setDE_f (s : State) (v : Word) : (s.setDE v).f = s.f := rfl
@[simp] theorem setDE_b (s : State) (v : Word) : (s.setDE v).b = s.b := rfl
@[simp] theorem setDE_c (s : State) (v : Word) : (s.setDE v).c = s.c := rfl
@[simp] theorem setDE_h (s : State) (v : Word) : (s.setDE v).h = s.h := rfl
@[simp] theorem setDE_l (s : State) (v : Word) : (s.setDE v).l = s.l := rfl
@[simp] theorem setDE_sp (s : State) (v : Word) : (s.setDE v).sp = s.sp := rfl
@[simp] theorem setDE_pc (s : State) (v : Word) : (s.setDE v).pc = s.pc := rfl
@[simp] theorem setDE_ime (s : State) (v : Word) : (s.setDE v).ime = s.ime := rfl
@[simp] theorem setDE_ie (s : State) (v : Word) : (s.setDE v).ie = s.ie := rfl
@[simp] theorem setDE_ifl (s : State) (v : Word) : (s.setDE v).ifl = s.ifl := rfl
@[simp] theorem setDE_mode (s : State) (v : Word) : (s.setDE v).mode = s.mode := rfl
@[simp] theorem setDE_line (s : State) (v : Word) : (s.setDE v).line = s.line := rfl
@[simp] theorem setDE_acc (s : State) (v : Word) : (s.setDE v).acc = s.acc := rfl
@[simp] theorem setDE_ticks (s : State) (v : Word) : (s.setDE v).ticks = s.ticks := rfl
@[simp] theorem setDE_timerSeen (s : State) (v : Word) : (s.setDE v).timerSeen = s.timerSeen := rfl
@[simp] theorem setDE_lcdc (s : State) (v : Word) : (s.setDE v).lcdc = s.lcdc := rfl
@[simp] theorem setDE_scy (s : State) (v : Word) : (s.setDE v).scy = s.scy := rfl
@[simp] theorem setDE_scx (s : State) (v : Word) : (s.setDE v).scx = s.scx := rfl
@[simp] theorem setDE_dma (s : State) (v : Word) : (s.setDE v).dma = s.dma := rfl
@[simp] theorem setDE_stopped (s : State) (v : Word) : (s.setDE v).stopped = s.stopped := rfl
@[simp] theorem setDE_fatal (s : State) (v : Word) : (s.setDE v).fatal = s.fatal := rfl
@[simp] theorem setDE_unsupportedSeen (s : State) (v : Word) : (s.setDE v).unsupportedSeen = s.unsupportedSeen := rfl
@[simp] theorem setDE_log (s : State) (v : Word) : (s.setDE v).log = s.log := rfl
@[simp] theorem setDE_mem (s : State) (v : Word) : (s.setDE v).mem = s.mem := rfl

@[simp] theorem setAF_b (s : State) (v : Word) : (s.setAF v).b = s.b := rfl
@[simp] theorem setAF_c (s : State) (v : Word) : (s.setAF v).c = s.c := rfl
@[simp] theorem setAF_d (s : State) (v : Word) : (s.setAF v).d = s.d := rfl
@[simp] theorem setAF_e (s : State) (v : Word) : (s.setAF v).e = s.e := rfl
@[simp] theorem setAF_h (s : State) (v : Word) : (s.setAF v).h = s.h := rfl
@[simp] theorem setAF_l (s : State) (v : Word) : (s.setAF v).l = s.l := rfl
@[simp] theorem setAF_sp (s : State) (v : Word) : (s.setAF v).sp = s.sp := rfl
@[simp] theorem setAF_pc (s : State) (v : Word) : (s.setAF v).pc = s.pc := rfl
@[simp] theorem setAF_ime (s : State) (v : Word) : (s.setAF v).ime = s.ime := rfl
@[simp] theorem setAF_ie (s : State) (v : Word) : (s.setAF v).ie = s.ie := rfl
@[simp] theorem setAF_ifl (s : State) (v : Word) : (s.setAF v).ifl = s.ifl := rfl
@[simp] theorem setAF_mode (s : State) (v : Word) : (s.setAF v).mode = s.mode := rfl
@[simp] theorem setAF_line (s : State) (v : Word) : (s.setAF v).line = s.line := rfl
@[simp] theorem setAF_acc (s : State) (v : Word) : (s.setAF v).acc = s.acc := rfl
@[simp] theorem setAF_ticks (s : State) (v : Word) : (s.setAF v).ticks = s.ticks := rfl
@[simp] theorem setAF_timerSeen (s : State) (v : Word) : (s.setAF v).timerSeen = s.timerSeen := rfl
@[simp] theorem setAF_lcdc (s : State) (v : Word) : (s.setAF v).lcdc = s.lcdc := rfl
@[simp] theorem setAF_scy (s : State) (v : Word) : (s.setAF v).scy = s.scy := rfl
@[simp] theorem setAF_scx (s : State) (v : Word) : (s.setAF v).scx = s.scx := rfl
@[simp] theorem setAF_dma (s : State) (v : Word) : (s.setAF v).dma = s.dma := rfl
@[simp] theorem setAF_stopped (s : State) (v : Word) : (s.setAF v).stopped = s.stopped := rfl
@[simp] theorem setAF_fatal (s : State) (v : Word) : (s.setAF v).fatal = s.fatal := rfl
@[simp] theorem setAF_unsupportedSeen (s : State) (v : Word) : (s.setAF v).unsupportedSeen = s.unsupportedSeen := rfl
@[simp] theorem setAF_log (s : State) (v : Word) : (s.setAF v).log = s.log := rfl
@[simp] theorem setAF_mem (s : State) (v : Word) : (s.setAF v).mem = s.mem := rfl

@[simp] theorem setPair_a (s : State) (p : Pair) (v : Word) : (s.setPair p v).a = s.a := by cases p <;> rfl
@[simp] theorem setPair_f (s : State) (p : Pair) (v : Word) : (s.setPair p v).f = s.f := by cases p <;> rfl
@[simp] theorem setPair_pc (s : State) (p : Pair) (v : Word) : (s.setPair p v).pc = s.pc := by cases p <;> rfl
@[simp] theorem setPair_ime (s : State) (p : Pair) (v : Word) : (s.setPair p v).ime = s.ime := by cases p <;> rfl
@[simp] theorem setPair_ie (s : State) (p : Pair) (v : Word) : (s.setPair p v).ie = s.ie := by cases p <;> rfl
@[simp] theorem setPair_ifl (s : State) (p : Pair) (v : Word) : (s.setPair p v).ifl = s.ifl := by cases p <;> rfl
@[simp] theorem setPair_mode (s : State) (p : Pair) (v : Word) : (s.setPair p v).mode = s.mode := by cases p <;> rfl
@[simp] theorem setPair_line (s : State) (p : Pair) (v : Word) : (s.setPair p v).line = s.line := by cases p <;> rfl
@[simp] theorem setPair_acc (s : State) (p : Pair) (v : Word) : (s.setPair p v).acc = s.acc := by cases p <;> rfl
@[simp] theorem setPair_ticks (s : State) (p : Pair) (v : Word) : (s.setPair p v).ticks = s.ticks := by cases p <;> rfl
@[simp] theorem setPair_timerSeen (s : State) (p : Pair) (v : Word) : (s.setPair p v).timerSeen = s.timerSeen := by cases p <;> rfl
@[simp] theorem setPair_lcdc (s : State) (p : Pair) (v : Word) : (s.setPair p v).lcdc = s.lcdc := by cases p <;> rfl
@[simp] theorem setPair_scy (s : State) (p : Pair) (v : Word) : (s.setPair p v).scy = s.scy := by cases p <;> rfl
@[simp] theorem setPair_scx (s : State) (p : Pair) (v : Word) : (s.setPair p v).scx = s.scx := by cases p <;> rfl
@[simp] theorem setPair_dma (s : State) (p : Pair) (v : Word) : (s.setPair p v).dma = s.dma := by cases p <;> rfl
@[simp] theorem setPair_stopped (s : State) (p : Pair) (v : Word) : (s.setPair p v).stopped = s.stopped := by cases p <;> rfl
@[simp] theorem setPair_fatal (s : State) (p : Pair) (v : Word) : (s.setPair p v).fatal = s.fatal := by cases p <;> rfl
@[simp] theorem setPair_unsupportedSeen (s : State) (p : Pair) (v : Word) : (s.setPair p v).unsupportedSeen = s.unsupportedSeen := by cases p <;> rfl
@[simp] theorem setPair_log (s : State) (p : Pair) (v : Word) : (s.setPair p v).log = s.log := by cases p <;> rfl
@[simp] theorem setPair_mem (s : State) (p : Pair) (v : Word) : (s.setPair p v).mem = s.mem := by cases p <;> rfl

@[simp] theorem setStackPair_sp (s : State) (p : StackPair) (v : Word) : (s.setStackPair p v).sp = s.sp := by cases p <;> rfl
@[simp] theorem setStackPair_pc (s : State) (p : StackPair) (v : Word) : (s.setStackPair p v).pc = s.pc := by cases p <;> rfl
@[simp] theorem setStackPair_ime (s : State) (p : StackPair) (v : Word) : (s.setStackPair p v).ime = s.ime := by cases p <;> rfl
@[simp] theorem setStackPair_ie (s : State) (p : StackPair) (v : Word) : (s.setStackPair p v).ie = s.ie := by cases p <;> rfl
@[simp] theorem setStackPair_ifl (s : State) (p : StackPair) (v : Word) : (s.setStackPair p v).ifl = s.ifl := by cases p <;> rfl
@[simp] theorem setStackPair_mode (s : State) (p : StackPair) (v : Word) : (s.setStackPair p v).mode = s.mode := by cases p <;> rfl
@[simp] theorem setStackPair_line (s : State) (p : StackPair) (v : Word) : (s.setStackPair p v).line = s.line := by cases p <;> rfl
@[simp] theorem setStackPair_acc (s : State) (p : StackPair) (v : Word) : (s.setStackPair p v).acc = s.acc := by cases p <;> rfl
@[simp] theorem setStackPair_ticks (s : State) (p : StackPair) (v : Word) : (s.setStackPair p v).ticks = s.ticks := by cases p <;> rfl
@[simp] theorem setStackPair_timerSeen (s : State) (p : StackPair) (v : Word) : (s.setStackPair p v).timerSeen = s.timerSeen := by cases p <;> rfl
@[simp] theorem setStackPair_lcdc (s : State) (p : StackPair) (v : Word) : (s.setStackPair p v).lcdc = s.lcdc := by cases p <;> rfl
@[simp] theorem setStackPair_scy (s : State) (p : StackPair) (v : Word) : (s.setStackPair p v).scy = s.scy := by cases p <;> rfl
@[simp] theorem setStackPair_scx (s : State) (p : StackPair) (v : Word) : (s.setStackPair p v).scx = s.scx := by cases p <;> rfl
@[simp] theorem setStackPair_dma (s : State) (p : StackPair) (v : Word) : (s.setStackPair p v).dma = s.dma := by cases p <;> rfl
@[simp] theorem setStackPair_stopped (s : State) (p : StackPair) (v : Word) : (s.setStackPair p v).stopped = s.stopped := by cases p <;> rfl
@[simp] theorem setStackPair_fatal (s : State) (p : StackPair) (v : Word) : (s.setStackPair p v).fatal = s.fatal := by cases p <;> rfl
@[simp] theorem setStackPair_unsupportedSeen (s : State) (p : StackPair) (v : Word) : (s.setStackPair p v).unsupportedSeen = s.unsupportedSeen := by cases p <;> rfl
@[simp] theorem setStackPair_log (s : State) (p : StackPair) (v : Word) : (s.setStackPair p v).log = s.log := by cases p <;> rfl
@[simp] theorem setStackPair_mem (s : State) (p : StackPair) (v : Word) : (s.setStackPair p v).mem = s.mem := by cases p <;> rfl

@[simp] theorem consume_a (s : State) (n : Nat) : (s.consume n).a = s.a := rfl
@[simp] theorem consume_f (s : State) (n : Nat) : (s.consume n).f = s.f := rfl
@[simp] theorem consume_b (s : State) (n : Nat) : (s.consume n).b = s.b := rfl
@[simp] theorem consume_c (s : State) (n : Nat) : (s.consume n).c = s.c := rfl
@[simp] theorem consume_d (s : State) (n : Nat) : (s.consume n).d = s.d := rfl
@[simp] theorem consume_e (s : State) (n : Nat) : (s.consume n).e = s.e := rfl
@[simp] theorem consume_h (s : State) (n : Nat) : (s.consume n).h = s.h := rfl
@[simp] theorem consume_l (s : State) (n : Nat) : (s.consume n).l = s.l := rfl
@[simp] theorem consume_sp (s : State) (n : Nat) : (s.consume n).sp = s.sp := rfl
@[simp] theorem consume_ime (s : State) (n : Nat) : (s.consume n).ime = s.ime := rfl
@[simp] theorem consume_ie (s : State) (n : Nat) : (s.consume n).ie = s.ie := rfl
@[simp] theorem consume_ifl (s : State) (n : Nat) : (s.consume n).ifl = s.ifl := rfl
@[simp] theorem consume_mode (s : State) (n : Nat) : (s.consume n).mode = s.mode := rfl
@[simp] theorem consume_line (s : State) (n : Nat) : (s.consume n).line = s.line := rfl
@[simp] theorem consume_acc (s : State) (n : Nat) : (s.consume n).acc = s.acc := rfl
@[simp] theorem consume_ticks (s : State) (n : Nat) : (s.consume n).ticks = s.ticks := rfl
@[simp] theorem consume_timerSeen (s : State) (n : Nat) : (s.consume n).timerSeen = s.timerSeen := rfl
@[simp] theorem consume_lcdc (s : State) (n : Nat) : (s.consume n).lcdc = s.lcdc := rfl
@[simp] theorem consume_scy (s : State) (n : Nat) : (s.consume n).scy = s.scy := rfl
@[simp] theorem consume_scx (s : State) (n : Nat) : (s.consume n).scx = s.scx := rfl
@[simp] theorem consume_dma (s : State) (n : Nat) : (s.consume n).dma = s.dma := rfl
@[simp] theorem consume_stopped (s : State) (n : Nat) : (s.consume n).stopped = s.stopped := rfl
@[simp] theorem consume_fatal (s : State) (n : Nat) : (s.consume n).fatal = s.fatal := rfl
@[simp] theorem consume_unsupportedSeen (s : State) (n : Nat) : (s.consume n).unsupportedSeen = s.unsupportedSeen := rfl
@[simp] theorem consume_log (s : State) (n : Nat) : (s.consume n).log = s.log := rfl
@[simp] theorem consume_mem (s : State) (n : Nat) : (s.consume n).mem = s.mem := rfl

@[simp] theorem dropTop_a (s : State) : (s.dropTop).a = s.a := rfl
@[simp] theorem dropTop_f (s : State) : (s.dropTop).f = s.f := rfl
@[simp] theorem dropTop_b (s : State) : (s.dropTop).b = s.b := rfl
@[simp] theorem dropTop_c (s : State) : (s.dropTop).c = s.c := rfl
@[simp] theorem dropTop_d (s : State) : (s.dropTop).d = s.d := rfl
@[simp] theorem dropTop_e (s : State) : (s.dropTop).e = s.e := rfl
@[simp] theorem dropTop_h (s : State) : (s.dropTop).h = s.h := rfl
@[simp] theorem dropTop_l (s : State) : (s.dropTop).l = s.l := rfl
@[simp] theorem dropTop_pc (s : State) : (s.dropTop).pc = s.pc := rfl
@[simp] theorem dropTop_ime (s : State) : (s.dropTop).ime = s.ime := rfl
@[simp] theorem dropTop_ie (s : State) : (s.dropTop).ie = s.ie := rfl
@[simp] theorem dropTop_ifl (s : State) : (s.dropTop).ifl = s.ifl := rfl
@[simp] theorem dropTop_mode (s : State) : (s.dropTop).mode = s.mode := rfl
@[simp] theorem dropTop_line (s : State) : (s.dropTop).line = s.line := rfl
@[simp] theorem dropTop_acc (s : State) : (s.dropTop).acc = s.acc := rfl
@[simp] theorem dropTop_ticks (s : State) : (s.dropTop).ticks = s.ticks := rfl
@[simp] theorem dropTop_timerSeen (s : State) : (s.dropTop).timerSeen = s.timerSeen := rfl
@[simp] theorem dropTop_lcdc (s : State) : (s.dropTop).lcdc = s.lcdc := rfl
@[simp] theorem dropTop_scy (s : State) : (s.dropTop).scy = s.scy := rfl
@[simp] theorem dropTop_scx (s : State) : (s.dropTop).scx = s.scx := rfl
@[simp] theorem dropTop_dma (s : State) : (s.dropTop).dma = s.dma := rfl
@[simp] theorem dropTop_stopped (s : State) : (s.dropTop).stopped = s.stopped := rfl
@[simp] theorem dropTop_fatal (s : State) : (s.dropTop).fatal = s.fatal := rfl
@[simp] theorem dropTop_unsupportedSeen (s : State) : (s.dropTop).unsupportedSeen = s.unsupportedSeen := rfl
@[simp] theorem dropTop_log (s : State) : (s.dropTop).log = s.log := rfl
@[simp] theorem dropTop_mem (s : State) : (s.dropTop).mem = s.mem := rfl

@[simp] theorem setArrayByte_a (s : State) (r : Region) (off : Nat) (v : Byte) : (s.setArrayByte r off v).a = s.a := rfl
@[simp] theorem setArrayByte_f (s : State) (r : Region) (off : Nat) (v : Byte) : (s.setArrayByte r off v).f = s.f := rfl
@[simp] theorem setArrayByte_b (s : State) (r : Region) (off : Nat) (v : Byte) : (s.setArrayByte r off v).b = s.b := rfl
@[simp] theorem setArrayByte_c (s : State) (r : Region) (off : Nat) (v : Byte) : (s.setArrayByte r off v).c = s.c := rfl
@[simp] theorem setArrayByte_d (s : State) (r : Region) (off : Nat) (v : Byte) : (s.setArrayByte r off v).d = s.d := rfl
@[simp] theorem setArrayByte_e (s : State) (r : Region) (off : Nat) (v : Byte) : (s.setArrayByte r off v).e = s.e := rfl
@[simp] theorem setArrayByte_h (s : State) (r : Region) (off : Nat) (v : Byte) : (s.setArrayByte r off v).h = s.h := rfl
@[simp] theorem setArrayByte_l (s : State) (r : Region) (off : Nat) (v : Byte) : (s.setArrayByte r off v).l = s.l := rfl
@[simp] theorem setArrayByte_sp (s : State) (r : Region) (off : Nat) (v : Byte) : (s.setArrayByte r off v).sp = s.sp := rfl
@[simp] theorem setArrayByte_pc (s : State) (r : Region) (off : Nat) (v : Byte) : (s.setArrayByte r off v).pc = s.pc := rfl
@[simp] theorem setArrayByte_ime (s : State) (r : Region) (off : Nat) (v : Byte) : (s.setArrayByte r off v).ime = s.ime := rfl
@[simp] theorem setArrayByte_ie (s : State) (r : Region) (off : Nat) (v : Byte) : (s.setArrayByte r off v).ie = s.ie := rfl
@[simp] theorem setArrayByte_ifl (s : State) (r : Region) (off : Nat) (v : Byte) : (s.setArrayByte r off v).ifl = s.ifl := rfl
@[simp] theorem setArrayByte_mode (s : State) (r : Region) (off : Nat) (v : Byte) : (s.setArrayByte r off v).mode = s.mode := rfl
@[simp] theorem setArrayByte_line (s : State) (r : Region) (off : Nat) (v : Byte) : (s.setArrayByte r off v).line = s.line := rfl
@[simp] theorem setArrayByte_acc (s : State) (r : Region) (off : Nat) (v : Byte) : (s.setArrayByte r off v).acc = s.acc := rfl
@[simp] theorem setArrayByte_ticks (s : State) (r : Region) (off : Nat) (v : Byte) : (s.setArrayByte r off v).ticks = s.ticks := rfl
@[simp] theorem setArrayByte_timerSeen (s : State) (r : Region) (off : Nat) (v : Byte) : (s.setArrayByte r off v).timerSeen = s.timerSeen := rfl
@[simp] theorem setArrayByte_lcdc (s : State) (r : Region) (off : Nat) (v : Byte) : (s.setArrayByte r off v).lcdc = s.lcdc := rfl
@[simp] theorem setArrayByte_scy (s : State) (r : Region) (off : Nat) (v : Byte) : (s.setArrayByte r off v).scy = s.scy := rfl
@[simp] theorem setArrayByte_scx (s : State) (r : Region) (off : Nat) (v : Byte) : (s.setArrayByte r off v).scx = s.scx := rfl
@[simp] theorem setArrayByte_dma (s : State) (r : Region) (off : Nat) (v : Byte) : (s.setArrayByte r off v).dma = s.dma := rfl
@[simp] theorem setArrayByte_stopped (s : State) (r : Region) (off : Nat) (v : Byte) : (s.setArrayByte r off v).stopped = s.stopped := rfl
@[simp] theorem setArrayByte_fatal (s : State) (r : Region) (off : Nat) (v : Byte) : (s.setArrayByte r off v).fatal = s.fatal := rfl
@[simp] theorem setArrayByte_unsupportedSeen (s : State) (r : Region) (off : Nat) (v : Byte) : (s.setArrayByte r off v).unsupportedSeen = s.unsupportedSeen := rfl
@[simp] theorem setArrayByte_log (s : State) (r : Region) (off : Nat) (v : Byte) : (s.setArrayByte r off v).log = s.log := rfl

@[simp] theorem request_a (s : State) (k : Source) : (s.request k).a = s.a := rfl
@[simp] theorem request_f (s : State) (k : Source) : (s.request k).f = s.f := rfl
@[simp] theorem request_b (s : State) (k : Source) : (s.request k).b = s.b := rfl
@[simp] theorem request_c (s : State) (k : Source) : (s.request k).c = s.c := rfl
@[simp] theorem request_d (s : State) (k : Source) : (s.request k).d = s.d := rfl
@[simp] theorem request_e (s : State) (k : Source) : (s.request k).e = s.e := rfl
@[simp] theorem request_h (s : State) (k : Source) : (s.request k).h = s.h := rfl
@[simp] theorem request_l (s : State) (k : Source) : (s.request k).l = s.l := rfl
@[simp] theorem request_sp (s : State) (k : Source) : (s.request k).sp = s.sp := rfl
@[simp] theorem request_pc (s : State) (k : Source) : (s.request k).pc = s.pc := rfl
@[simp] theorem request_ime (s : State) (k : Source) : (s.request k).ime = s.ime := rfl
@[simp] theorem request_ie (s : State) (k : Source) : (s.request k).ie = s.ie := rfl
@[simp] theorem request_mode (s : State) (k : Source) : (s.request k).mode = s.mode := rfl
@[simp] theorem request_line (s : State) (k : Source) : (s.request k).line = s.line := rfl
@[simp] theorem request_acc (s : State) (k : Source) : (s.request k).acc = s.acc := rfl
@[simp] theorem request_ticks (s : State) (k : Source) : (s.request k).ticks = s.ticks := rfl
@[simp] theorem request_timerSeen (s : State) (k : Source) : (s.request k).timerSeen = s.timerSeen := rfl
@[simp] theorem request_lcdc (s : State) (k : Source) : (s.request k).lcdc = s.lcdc := rfl
@[simp] theorem request_scy (s : State) (k : Source) : (s.request k).scy = s.scy := rfl
@[simp] theorem request_scx (s : State) (k : Source) : (s.request k).scx = s.scx := rfl
@[simp] theorem request_dma (s : State) (k : Source) : (s.request k).dma = s.dma := rfl
@[simp] theorem request_stopped (s : State) (k : Source) : (s.request k).stopped = s.stopped := rfl
@[simp] theorem request_fatal (s : State) (k : Source) : (s.request k).fatal = s.fatal := rfl
@[simp] theorem request_unsupportedSeen (s : State) (k : Source) : (s.request k).unsupportedSeen = s.unsupportedSeen := rfl
@[simp] theorem request_log (s : State) (k : Source) : (s.request k).log = s.log := rfl
@[simp] theorem request_mem (s : State) (k : Source) : (s.request k).mem = s.mem := rfl

theorem flag_bit_lt (k : Flag) : k.bit < 8 := by cases k <;> decide

theorem four_le_flag_bit (k : Flag) : 4 ≤ k.bit := by cases k <;> decide

theorem flag_bit_injective {j k : Flag} (h : j.bit = k.bit) : j = k := by cases j <;> cases k <;> first | rfl | cases h

/-- A flag setter writes its own flag and no other (10_state.md R35). -/
theorem flag_setFlag (s : State) (k : Flag) (v : Bool) (j : Flag) :
    (s.setFlag k v).flag j = if j = k then v else s.flag j := by
  unfold State.flag State.setFlag
  rw [getLsbD_withBit _ _ (flag_bit_lt k)]
  by_cases h : j = k
  · simp [h]
  · rw [if_neg h, if_neg fun hb => h (flag_bit_injective hb)]

@[simp] theorem flag_setFlag_self (s : State) (k : Flag) (v : Bool) : (s.setFlag k v).flag k = v := by
  simp [flag_setFlag]

/-- The low nibble of F survives every flag setter (R34, R35). -/
@[simp] theorem setFlag_lowNibble (s : State) (k : Flag) (v : Bool) : (s.setFlag k v).f &&& 0x0F#8 = s.f &&& 0x0F#8 :=
  withBit_and_low _ _ (flag_bit_lt k) (four_le_flag_bit k) v

@[simp] theorem setFlags_lowNibble (s : State) (v : FlagVals) : (s.setFlags v).f &&& 0x0F#8 = s.f &&& 0x0F#8 := by
  simp [State.setFlags]

@[simp] theorem flag_setFlags_z (s : State) (v : FlagVals) : (s.setFlags v).flag .z = v.z := by
  simp [State.setFlags, flag_setFlag]

@[simp] theorem flag_setFlags_n (s : State) (v : FlagVals) : (s.setFlags v).flag .n = v.n := by
  simp [State.setFlags, flag_setFlag]

@[simp] theorem flag_setFlags_h (s : State) (v : FlagVals) : (s.setFlags v).flag .h = v.h := by
  simp [State.setFlags, flag_setFlag]

@[simp] theorem flag_setFlags_c (s : State) (v : FlagVals) : (s.setFlags v).flag .c = v.c := by
  simp [State.setFlags]

/-- A flag depends on F alone. -/
theorem flag_congr {s t : State} (h : t.f = s.f) (k : Flag) : t.flag k = s.flag k := by simp [State.flag, h]

/-- A register reads what was last written to it, and the other six keep their value (10_state.md R31). -/
theorem reg_setReg (s : State) (r : Reg) (v : Byte) (q : Reg) :
    (s.setReg r v).reg q = if q = r then v else s.reg q := by
  cases r <;> cases q <;> rfl

@[simp] theorem hl_setHL (s : State) (v : Word) : (s.setHL v).hl = v := by simp [State.setHL, State.hl]
@[simp] theorem bc_setBC (s : State) (v : Word) : (s.setBC v).bc = v := by simp [State.setBC, State.bc]
@[simp] theorem de_setDE (s : State) (v : Word) : (s.setDE v).de = v := by simp [State.setDE, State.de]

/-- A pair reads what was written to it (10_state.md R32, R33). -/
@[simp] theorem pair_setPair (s : State) (p : Pair) (v : Word) : (s.setPair p v).pair p = v := by
  cases p <;> simp [State.setPair, State.pair]

end Sys2Proof.Laws
end

