-- ==== Sys2Proof/Laws/Bus.lean ====
section
/-! SUPPORT. The laws of the bus: what an address routes to, what a read sees after one array byte changed, what a byte
write can do, and what the DMA copy leaves. -/

namespace Sys2Proof.Laws

open Sys2Proof.Machine

/-- The address of an intercepted register (20_memory.md R76). -/
def ioAddr (q : IoReg) : Nat :=
  match q with
  | .ifl => 0xFF0F | .lcdc => 0xFF40 | .scy => 0xFF42 | .scx => 0xFF43 | .ly => 0xFF44 | .dma => 0xFF46 | .ie => 0xFFFF

/-- The key of the cell under an address: the address itself, or its first window for the mirror (R74). -/
def cellKey (a : Word) : Nat :=
  if 0xE000 ≤ a.toNat ∧ a.toNat ≤ 0xFDFF then a.toNat - 0x2000 else a.toNat

/-- The address is an intercepted one (R76). -/
abbrev IsIo (a : Word) : Prop :=
  a.toNat = 0xFF0F ∨ a.toNat = 0xFF40 ∨ a.toNat = 0xFF42 ∨ a.toNat = 0xFF43 ∨ a.toNat = 0xFF44 ∨ a.toNat = 0xFF46 ∨
    a.toNat = 0xFFFF

theorem isIo_of_eq {a : Word} {q : IoReg} (h : a.toNat = ioAddr q) : IsIo a := by
  cases q <;> simp only [ioAddr] at h <;> simp only [IsIo] <;> omega

theorem exists_ioAddr_of_isIo {a : Word} (h : IsIo a) : ∃ q, a.toNat = ioAddr q := by
  rcases h with h | h | h | h | h | h | h
  · exact ⟨.ifl, h⟩
  · exact ⟨.lcdc, h⟩
  · exact ⟨.scy, h⟩
  · exact ⟨.scx, h⟩
  · exact ⟨.ly, h⟩
  · exact ⟨.dma, h⟩
  · exact ⟨.ie, h⟩

theorem isKey_iff (k : Nat) : Memory.isKey k = true ↔ k < 0xE000 ∨ 0xFE00 ≤ k ∧ k < 0x10000 := decide_eq_true_iff

/-- What an address reaches (R71, R72, R76): one intercepted register, at its address, or one array byte, whose key is the
address's; it is in ROM exactly up to 0x7FFF. -/
theorem route_spec (a : Word) :
    (∃ q, route a = .reg q ∧ a.toNat = ioAddr q) ∨
    (∃ r off, route a = .array r off ∧ r.base + off = cellKey a ∧ off < r.size ∧ (r = .rom ↔ a.toNat ≤ 0x7FFF) ∧
      ¬ IsIo a) := by
  have ha := a.isLt
  by_cases hio : IsIo a
  · left
    obtain ⟨q, hq⟩ := exists_ioAddr_of_isIo hio
    refine ⟨q, ?_, hq⟩
    unfold route
    rw [hq]
    cases q <;> rfl
  · right
    obtain ⟨h1, h2, h3, h4, h5, h6, h7⟩ : a.toNat ≠ 0xFF0F ∧ a.toNat ≠ 0xFF40 ∧ a.toNat ≠ 0xFF42 ∧ a.toNat ≠ 0xFF43 ∧
        a.toNat ≠ 0xFF44 ∧ a.toNat ≠ 0xFF46 ∧ a.toNat ≠ 0xFFFF := by
      simpa only [IsIo, not_or] using hio
    unfold route cellKey
    simp only [if_neg h1, if_neg h2, if_neg h3, if_neg h4, if_neg h5, if_neg h6]
    repeat' split
    all_goals first
      | exact ⟨_, _, rfl, by simp only [Region.base]; omega, by simp only [Region.size]; omega,
          by constructor <;> first | (intro h; cases h; done) | (intro _; omega) | (intro _; rfl), hio⟩
      | omega

theorem route_rom {a : Word} (h : a.toNat ≤ 0x7FFF) : route a = .array .rom a.toNat := by
  unfold route
  rw [if_pos h]

theorem route_ioAddr {a : Word} {q : IoReg} (h : a.toNat = ioAddr q) : route a = .reg q := by
  rcases route_spec a with ⟨q', hr, ha⟩ | ⟨_, _, _, _, _, _, hne⟩
  · rw [hr]
    cases q <;> cases q' <;> simp_all [ioAddr]
  · exact absurd (isIo_of_eq h) hne

theorem cellKey_isKey (a : Word) : Memory.isKey (cellKey a) = true := by
  have := a.isLt
  rw [isKey_iff, cellKey]
  split <;> omega

/-- A read depends on the cells and the registers behind intercepted addresses only. -/
theorem readByte_congr {s t : State} (mem : t.mem = s.mem) (io : ∀ q, t.ioReg q = s.ioReg q) (x : Word) :
    t.readByte x = s.readByte x := by
  unfold State.readByte State.arrayByte
  cases route x <;> simp [mem, io]

theorem ioReg_setArrayByte (s : State) (r : Region) (off : Nat) (v : Byte) (q : IoReg) :
    (s.setArrayByte r off v).ioReg q = s.ioReg q := by cases q <;> rfl

/-- After one array byte changed, a read sees it exactly at the addresses with its key. -/
theorem readByte_setArrayByte {s : State} (wf : s.mem.wf) (r : Region) (off : Nat) (v : Byte) (x : Word) :
    (s.setArrayByte r off v).readByte x =
      if ¬ IsIo x ∧ cellKey x = r.base + off then v else s.readByte x := by
  rcases route_spec x with ⟨q, hr, hx⟩ | ⟨r', off', hr, hk, -, -, hne⟩
  · have : ¬ (¬ IsIo x ∧ cellKey x = r.base + off) := fun h => h.1 (isIo_of_eq hx)
    rw [if_neg this]
    simp only [State.readByte, hr, ioReg_setArrayByte]
  · simp only [State.readByte, hr, State.arrayByte, State.setArrayByte, read_write wf, hk]
    by_cases h : cellKey x = r.base + off
    · rw [if_pos h, if_pos ⟨hne, h⟩]
    · rw [if_neg h, if_neg fun h' => h h'.2]

/-- The key of an array byte that an address routes to. -/
theorem isKey_of_route {a : Word} {r : Region} {off : Nat} (h : route a = .array r off) :
    Memory.isKey (r.base + off) = true := by
  rcases route_spec a with ⟨q, hr, -⟩ | ⟨r', off', hr, hk, -⟩
  · rw [h] at hr
    cases hr
  · rw [h] at hr
    cases hr
    rw [hk]
    exact cellKey_isKey a

/-- What a byte write can do (R85): one of three things. -/
theorem writeByte_cases (a : Word) (v : Byte) (s : State) :
    (a.toNat ≤ 0x7FFF ∧ writeByte a v s = raiseFatal (.romWrite a v) s) ∨
    (0x7FFF < a.toNat ∧ ∃ r off, route a = .array r off ∧ writeByte a v s = .next (s.setArrayByte r off v)) ∨
    (0x7FFF < a.toNat ∧ ∃ q, route a = .reg q ∧ a.toNat = ioAddr q ∧ writeByte a v s = .next (s.setIoReg q v)) := by
  rcases route_spec a with ⟨q, hr, ha⟩ | ⟨r, off, hr, -, -, hrom, -⟩
  · refine .inr (.inr ⟨?_, q, hr, ha, by simp only [writeByte, hr]⟩)
    cases q <;> simp only [ioAddr] at ha <;> omega
  · by_cases h : a.toNat ≤ 0x7FFF
    · refine .inl ⟨h, ?_⟩
      have := hrom.2 h
      subst this
      simp only [writeByte, hr]
    · refine .inr (.inl ⟨by omega, r, off, hr, ?_⟩)
      have : r ≠ .rom := fun e => h (hrom.1 e)
      cases r <;> simp_all [writeByte]

/-- The DMA copy changes OAM's cells and nothing else. -/
theorem dmaCopyFrom_eq (base : Word) (n i : Nat) (s : State) :
    dmaCopyFrom base n i s = { s with mem := (dmaCopyFrom base n i s).mem } := by
  induction n generalizing i s with
  | zero => rfl
  | succ n ih =>
    rw [dmaCopyFrom, ih]
    rfl

theorem dmaCopyFrom_wf {s : State} (wf : s.mem.wf) (base : Word) (n i : Nat) (h : i + n ≤ 256) :
    (dmaCopyFrom base n i s).mem.wf := by
  induction n generalizing i s with
  | zero => exact wf
  | succ n ih =>
    refine ih (write_wf wf ?_ _) (i + 1) (by omega)
    simp only [isKey_iff, Region.base]
    omega

/-- What a read sees after the loop: the OAM bytes `i` to `i + n - 1` hold what the source bytes held before (R87). -/
theorem readByte_dmaCopyFrom {s : State} (wf : s.mem.wf) (v : Byte) (n i : Nat) (h : i + n ≤ 160) (x : Word) :
    (dmaCopyFrom (concat v 0x00) n i s).readByte x =
      if 0xFE00 + i ≤ x.toNat ∧ x.toNat < 0xFE00 + i + n then
        s.readByte (concat v 0x00 + BitVec.ofNat 16 (x.toNat - 0xFE00))
      else s.readByte x := by
  induction n generalizing i s with
  | zero =>
    rw [dmaCopyFrom, if_neg (by omega)]
  | succ n ih =>
    have hkey : Memory.isKey (Region.oam.base + i) = true := by
      simp only [isKey_iff, Region.base]
      omega
    have hx := x.isLt
    have oam : ∀ y : Word, (¬ IsIo y ∧ cellKey y = Region.oam.base + i) ↔ y.toNat = 0xFE00 + i := by
      intro y
      have hy := y.isLt
      simp only [Region.base, cellKey]
      constructor
      · rintro ⟨-, h2⟩
        split at h2 <;> omega
      · intro h2
        exact ⟨by simp only [IsIo]; omega, by rw [if_neg (by omega)]; exact h2⟩
    rw [dmaCopyFrom, ih (s := s.setArrayByte .oam i _) (write_wf wf hkey _) (i + 1) (by omega)]
    by_cases h1 : 0xFE00 + (i + 1) ≤ x.toNat ∧ x.toNat < 0xFE00 + (i + 1) + n
    · rw [if_pos h1, if_pos (by omega), readByte_setArrayByte wf, if_neg]
      rw [oam]
      have hv := v.isLt
      have hz : (0x00 : Byte).toNat = 0 := rfl
      rw [BitVec.toNat_add, concat_toNat, BitVec.toNat_ofNat, hz]
      omega
    · rw [if_neg h1, readByte_setArrayByte wf]
      by_cases h2 : x.toNat = 0xFE00 + i
      · rw [if_pos ((oam x).2 h2), if_pos (by omega)]
        have e : x.toNat - 0xFE00 = i := by omega
        rw [e]
      · rw [if_neg (fun h => h2 ((oam x).1 h)), if_neg (by omega)]

/-- A byte write that is not fatal changes the cells and the registers behind intercepted addresses, and nothing else. -/
theorem writeByte_frame {a : Word} {v : Byte} {s t : State} (h : writeByte a v s = .next t) :
    t = { s with
      ie := t.ie, ifl := t.ifl, lcdc := t.lcdc, scy := t.scy, scx := t.scx, dma := t.dma, mem := t.mem } := by
  rcases writeByte_cases a v s with ⟨-, e⟩ | ⟨-, r, off, -, e⟩ | ⟨-, q, -, -, e⟩
  · rw [e] at h
    cases h
  · rw [e] at h
    cases h
    rfl
  · rw [e] at h
    cases h
    cases q
    case dma =>
      simp only [State.setIoReg, dmaCopy]
      have e := dmaCopyFrom_eq (concat v 0x00) 160 0 { s with dma := v }
      generalize dmaCopyFrom (concat v 0x00) 160 0 { s with dma := v } = u at e ⊢
      rw [e]
    all_goals rfl

/-- What a store leaves alone, field by field: everything but the cells and the registers behind intercepted addresses. -/
structure StoreKept (s t : State) : Prop where
  a : t.a = s.a
  f : t.f = s.f
  b : t.b = s.b
  c : t.c = s.c
  d : t.d = s.d
  e : t.e = s.e
  h : t.h = s.h
  l : t.l = s.l
  sp : t.sp = s.sp
  pc : t.pc = s.pc
  ime : t.ime = s.ime
  mode : t.mode = s.mode
  line : t.line = s.line
  acc : t.acc = s.acc
  ticks : t.ticks = s.ticks
  timerSeen : t.timerSeen = s.timerSeen
  stopped : t.stopped = s.stopped
  fatal : t.fatal = s.fatal
  unsupportedSeen : t.unsupportedSeen = s.unsupportedSeen
  log : t.log = s.log

/-- A byte write that is not fatal leaves every other field as it was. -/
theorem writeByte_kept {a : Word} {v : Byte} {s t : State} (h : writeByte a v s = .next t) : StoreKept s t := by
  have e := writeByte_frame h
  constructor <;> (rw [e])

theorem StoreKept.refl (s : State) : StoreKept s s := by constructor <;> rfl

theorem StoreKept.trans {s t u : State} (h : StoreKept s t) (k : StoreKept t u) : StoreKept s u where
  a := k.a.trans h.a
  f := k.f.trans h.f
  b := k.b.trans h.b
  c := k.c.trans h.c
  d := k.d.trans h.d
  e := k.e.trans h.e
  h := k.h.trans h.h
  l := k.l.trans h.l
  sp := k.sp.trans h.sp
  pc := k.pc.trans h.pc
  ime := k.ime.trans h.ime
  mode := k.mode.trans h.mode
  line := k.line.trans h.line
  acc := k.acc.trans h.acc
  ticks := k.ticks.trans h.ticks
  timerSeen := k.timerSeen.trans h.timerSeen
  stopped := k.stopped.trans h.stopped
  fatal := k.fatal.trans h.fatal
  unsupportedSeen := k.unsupportedSeen.trans h.unsupportedSeen
  log := k.log.trans h.log

theorem StoreKept.reg {s t : State} (k : StoreKept s t) (q : Reg) : t.reg q = s.reg q := by
  cases q
  · exact k.b
  · exact k.c
  · exact k.d
  · exact k.e
  · exact k.h
  · exact k.l
  · exact k.a

theorem StoreKept.hl {s t : State} (k : StoreKept s t) : t.hl = s.hl := by
  rw [State.hl, State.hl, k.h, k.l]

theorem StoreKept.flag {s t : State} (k : StoreKept s t) (q : Flag) : t.flag q = s.flag q := by
  rw [State.flag, State.flag, k.f]

/-- A byte write that is not fatal keeps the canonical form. -/
theorem writeByte_wf {a : Word} {v : Byte} {s t : State} (wf : s.mem.wf) (h : writeByte a v s = .next t) : t.mem.wf := by
  rcases writeByte_cases a v s with ⟨-, e⟩ | ⟨-, r, off, hr, e⟩ | ⟨-, q, -, -, e⟩
  · rw [e] at h
    cases h
  · rw [e] at h
    cases h
    exact write_wf wf (isKey_of_route hr) v
  · rw [e] at h
    cases h
    cases q
    case dma => exact dmaCopyFrom_wf (s := { s with dma := v }) wf _ 160 0 (by omega)
    all_goals exact wf

/-- Above ROM a byte write is not fatal, and up to 0x7FFF it is (R86). -/
theorem writeByte_next_iff (a : Word) (v : Byte) (s : State) : (∃ t, writeByte a v s = .next t) ↔ 0x7FFF < a.toNat := by
  rcases writeByte_cases a v s with ⟨ha, e⟩ | ⟨ha, r, off, -, e⟩ | ⟨ha, q, -, -, e⟩ <;> rw [e]
  · constructor
    · rintro ⟨t, h⟩
      cases h
    · intro h
      omega
  · exact ⟨fun _ => ha, fun _ => ⟨_, rfl⟩⟩
  · exact ⟨fun _ => ha, fun _ => ⟨_, rfl⟩⟩

end Sys2Proof.Laws
end

