-- ==== Sys2Proof/Laws/Decode.lean ====
section
/-! SUPPORT. The laws of the opcode map. -/

namespace Sys2Proof.Laws

/-- The map has an entry at every row and column, so no byte falls outside it (30_encoding.md R130). -/
theorem opcodeMap_total : opcodeMap.length = 16 ∧ ∀ r ∈ opcodeMap, r.length = 16 := by
  refine ⟨rfl, fun r hr => ?_⟩
  simp only [opcodeMap, List.mem_cons, List.not_mem_nil, or_false] at hr
  rcases hr with h | h | h | h | h | h | h | h | h | h | h | h | h | h | h | h <;> (subst h; rfl)

/-- The form of every byte is an entry of the map. -/
theorem form_length_le (op : Byte) : 1 ≤ (form op).length ∧ (form op).length ≤ 3 := by
  cases form op <;> simp [Form.length]

/-- `fetch`'s decoder reads what the list decoder reads. -/
theorem decode_three (op b1 b2 : Byte) (rest : List Byte) :
    ∃ tail, decode (op :: b1 :: b2 :: rest) = .ok (decodeBytes op b1 b2, tail) := by
  simp only [decode, decodeBytes]
  cases form op <;> exact ⟨_, rfl⟩

end Sys2Proof.Laws
end

