-- ==== Sys2Proof/Laws/Forms.lean ====
section
/-! SUPPORT. Case analysis of an instruction by its family: 59 cases in place of 256. -/

namespace Sys2Proof.Laws

open Sys2Proof.Machine

/-- What holds of every family holds of every instruction. -/
theorem instr_by_family {P : Instr → Prop}
    (ldReg : ∀ dst src, P (.ldReg dst src))
    (ldImm : ∀ r n, P (.ldImm r n))
    (ldFromHL : ∀ r, P (.ldFromHL r))
    (ldToHL : ∀ r, P (.ldToHL r))
    (ldAtHL : ∀ n, P (.ld_atHL_d8 n))
    (ldAAtBC : P .ld_A_atBC)
    (ldAAtDE : P .ld_A_atDE)
    (ldAtBCA : P .ld_atBC_A)
    (ldAtDEA : P .ld_atDE_A)
    (ldAtHLincA : P .ld_atHLinc_A)
    (ldAAtHLinc : P .ld_A_atHLinc)
    (ldAtHLdecA : P .ld_atHLdec_A)
    (ldAAtHLdec : P .ld_A_atHLdec)
    (ldAtA16A : ∀ a, P (.ld_atA16_A a))
    (ldAAtA16 : ∀ a, P (.ld_A_atA16 a))
    (ldhAtA8A : ∀ n, P (.ldh_atA8_A n))
    (ldhAAtA8 : ∀ n, P (.ldh_A_atA8 n))
    (ldAtCA : P .ld_atC_A)
    (ldAAtC : P .ld_A_atC)
    (ldPair : ∀ p v, P (.ldPair p v))
    (ldAtA16SP : ∀ a, P (.ld_atA16_SP a))
    (ldSPHL : P .ld_SP_HL)
    (ldHLSPe8 : ∀ e, P (.ld_HL_SPe8 e))
    (push : ∀ p, P (.push p))
    (pop : ∀ p, P (.pop p))
    (alu : ∀ k src, P (.alu k src))
    (incReg : ∀ r, P (.incReg r))
    (incAtHL : P .inc_atHL)
    (decReg : ∀ r, P (.decReg r))
    (decAtHL : P .dec_atHL)
    (incPair : ∀ p, P (.incPair p))
    (decPair : ∀ p, P (.decPair p))
    (addHL : ∀ p, P (.addHL p))
    (addSPe8 : ∀ e, P (.add_SP_e8 e))
    (rlca : P .rlca)
    (rrca : P .rrca)
    (rla : P .rla)
    (rra : P .rra)
    (daa : P .daa)
    (cpl : P .cpl)
    (scf : P .scf)
    (ccf : P .ccf)
    (jr : ∀ e, P (.jr_e8 e))
    (jrIf : ∀ cc e, P (.jrIf cc e))
    (jp : ∀ a, P (.jp_a16 a))
    (jpIf : ∀ cc a, P (.jpIf cc a))
    (jpHL : P .jp_HL)
    (call : ∀ a, P (.call_a16 a))
    (callIf : ∀ cc a, P (.callIf cc a))
    (ret : P .ret)
    (retIf : ∀ cc, P (.retIf cc))
    (reti : P .reti)
    (rst : ∀ y, P (.rst y))
    (nop : P .nop)
    (halt : P .halt)
    (stop : ∀ n, P (.stop n))
    (di : P .di)
    (ei : P .ei)
    (unsupported : ∀ p ∈ Instr.unsupportedList, P (p.1))
    (i : Instr) : P i := by
  cases i with
  | ld_BC_d16 v => exact ldPair .bc v
  | ld_B_d8 n => exact ldImm .b n
  | ld_atA16_SP a => exact ldAtA16SP a
  | ld_C_d8 n => exact ldImm .c n
  | stop n => exact stop n
  | ld_DE_d16 v => exact ldPair .de v
  | ld_D_d8 n => exact ldImm .d n
  | jr_e8 e => exact jr e
  | ld_E_d8 n => exact ldImm .e n
  | jr_NZ_e8 e => exact jrIf .nz e
  | ld_HL_d16 v => exact ldPair .hl v
  | ld_H_d8 n => exact ldImm .h n
  | jr_Z_e8 e => exact jrIf .z e
  | ld_L_d8 n => exact ldImm .l n
  | jr_NC_e8 e => exact jrIf .nc e
  | ld_SP_d16 v => exact ldPair .sp v
  | ld_atHL_d8 n => exact ldAtHL n
  | jr_C_e8 e => exact jrIf .c e
  | ld_A_d8 n => exact ldImm .a n
  | jp_NZ_a16 a => exact jpIf .nz a
  | jp_a16 a => exact jp a
  | call_NZ_a16 a => exact callIf .nz a
  | add_A_d8 n => exact alu .add (.d8 n)
  | jp_Z_a16 a => exact jpIf .z a
  | call_Z_a16 a => exact callIf .z a
  | call_a16 a => exact call a
  | adc_A_d8 n => exact alu .adc (.d8 n)
  | jp_NC_a16 a => exact jpIf .nc a
  | call_NC_a16 a => exact callIf .nc a
  | sub_d8 n => exact alu .sub (.d8 n)
  | jp_C_a16 a => exact jpIf .c a
  | call_C_a16 a => exact callIf .c a
  | sbc_A_d8 n => exact alu .sbc (.d8 n)
  | ldh_atA8_A n => exact ldhAtA8A n
  | and_d8 n => exact alu .and (.d8 n)
  | add_SP_e8 e => exact addSPe8 e
  | ld_atA16_A a => exact ldAtA16A a
  | xor_d8 n => exact alu .xor (.d8 n)
  | ldh_A_atA8 n => exact ldhAAtA8 n
  | or_d8 n => exact alu .or (.d8 n)
  | ld_HL_SPe8 e => exact ldHLSPe8 e
  | ld_A_atA16 a => exact ldAAtA16 a
  | cp_d8 n => exact alu .cp (.d8 n)
  | nop => exact nop
  | ld_atBC_A => exact ldAtBCA
  | inc_BC => exact incPair .bc
  | inc_B => exact incReg .b
  | dec_B => exact decReg .b
  | rlca => exact rlca
  | add_HL_BC => exact addHL .bc
  | ld_A_atBC => exact ldAAtBC
  | dec_BC => exact decPair .bc
  | inc_C => exact incReg .c
  | dec_C => exact decReg .c
  | rrca => exact rrca
  | ld_atDE_A => exact ldAtDEA
  | inc_DE => exact incPair .de
  | inc_D => exact incReg .d
  | dec_D => exact decReg .d
  | rla => exact rla
  | add_HL_DE => exact addHL .de
  | ld_A_atDE => exact ldAAtDE
  | dec_DE => exact decPair .de
  | inc_E => exact incReg .e
  | dec_E => exact decReg .e
  | rra => exact rra
  | ld_atHLinc_A => exact ldAtHLincA
  | inc_HL => exact incPair .hl
  | inc_H => exact incReg .h
  | dec_H => exact decReg .h
  | daa => exact daa
  | add_HL_HL => exact addHL .hl
  | ld_A_atHLinc => exact ldAAtHLinc
  | dec_HL => exact decPair .hl
  | inc_L => exact incReg .l
  | dec_L => exact decReg .l
  | cpl => exact cpl
  | ld_atHLdec_A => exact ldAtHLdecA
  | inc_SP => exact incPair .sp
  | inc_atHL => exact incAtHL
  | dec_atHL => exact decAtHL
  | scf => exact scf
  | add_HL_SP => exact addHL .sp
  | ld_A_atHLdec => exact ldAAtHLdec
  | dec_SP => exact decPair .sp
  | inc_A => exact incReg .a
  | dec_A => exact decReg .a
  | ccf => exact ccf
  | ld_B_B => exact ldReg .b .b
  | ld_B_C => exact ldReg .b .c
  | ld_B_D => exact ldReg .b .d
  | ld_B_E => exact ldReg .b .e
  | ld_B_H => exact ldReg .b .h
  | ld_B_L => exact ldReg .b .l
  | ld_B_atHL => exact ldFromHL .b
  | ld_B_A => exact ldReg .b .a
  | ld_C_B => exact ldReg .c .b
  | ld_C_C => exact ldReg .c .c
  | ld_C_D => exact ldReg .c .d
  | ld_C_E => exact ldReg .c .e
  | ld_C_H => exact ldReg .c .h
  | ld_C_L => exact ldReg .c .l
  | ld_C_atHL => exact ldFromHL .c
  | ld_C_A => exact ldReg .c .a
  | ld_D_B => exact ldReg .d .b
  | ld_D_C => exact ldReg .d .c
  | ld_D_D => exact ldReg .d .d
  | ld_D_E => exact ldReg .d .e
  | ld_D_H => exact ldReg .d .h
  | ld_D_L => exact ldReg .d .l
  | ld_D_atHL => exact ldFromHL .d
  | ld_D_A => exact ldReg .d .a
  | ld_E_B => exact ldReg .e .b
  | ld_E_C => exact ldReg .e .c
  | ld_E_D => exact ldReg .e .d
  | ld_E_E => exact ldReg .e .e
  | ld_E_H => exact ldReg .e .h
  | ld_E_L => exact ldReg .e .l
  | ld_E_atHL => exact ldFromHL .e
  | ld_E_A => exact ldReg .e .a
  | ld_H_B => exact ldReg .h .b
  | ld_H_C => exact ldReg .h .c
  | ld_H_D => exact ldReg .h .d
  | ld_H_E => exact ldReg .h .e
  | ld_H_H => exact ldReg .h .h
  | ld_H_L => exact ldReg .h .l
  | ld_H_atHL => exact ldFromHL .h
  | ld_H_A => exact ldReg .h .a
  | ld_L_B => exact ldReg .l .b
  | ld_L_C => exact ldReg .l .c
  | ld_L_D => exact ldReg .l .d
  | ld_L_E => exact ldReg .l .e
  | ld_L_H => exact ldReg .l .h
  | ld_L_L => exact ldReg .l .l
  | ld_L_atHL => exact ldFromHL .l
  | ld_L_A => exact ldReg .l .a
  | ld_atHL_B => exact ldToHL .b
  | ld_atHL_C => exact ldToHL .c
  | ld_atHL_D => exact ldToHL .d
  | ld_atHL_E => exact ldToHL .e
  | ld_atHL_H => exact ldToHL .h
  | ld_atHL_L => exact ldToHL .l
  | halt => exact halt
  | ld_atHL_A => exact ldToHL .a
  | ld_A_B => exact ldReg .a .b
  | ld_A_C => exact ldReg .a .c
  | ld_A_D => exact ldReg .a .d
  | ld_A_E => exact ldReg .a .e
  | ld_A_H => exact ldReg .a .h
  | ld_A_L => exact ldReg .a .l
  | ld_A_atHL => exact ldFromHL .a
  | ld_A_A => exact ldReg .a .a
  | add_A_B => exact alu .add (.reg .b)
  | add_A_C => exact alu .add (.reg .c)
  | add_A_D => exact alu .add (.reg .d)
  | add_A_E => exact alu .add (.reg .e)
  | add_A_H => exact alu .add (.reg .h)
  | add_A_L => exact alu .add (.reg .l)
  | add_A_atHL => exact alu .add .atHL
  | add_A_A => exact alu .add (.reg .a)
  | adc_A_B => exact alu .adc (.reg .b)
  | adc_A_C => exact alu .adc (.reg .c)
  | adc_A_D => exact alu .adc (.reg .d)
  | adc_A_E => exact alu .adc (.reg .e)
  | adc_A_H => exact alu .adc (.reg .h)
  | adc_A_L => exact alu .adc (.reg .l)
  | adc_A_atHL => exact alu .adc .atHL
  | adc_A_A => exact alu .adc (.reg .a)
  | sub_B => exact alu .sub (.reg .b)
  | sub_C => exact alu .sub (.reg .c)
  | sub_D => exact alu .sub (.reg .d)
  | sub_E => exact alu .sub (.reg .e)
  | sub_H => exact alu .sub (.reg .h)
  | sub_L => exact alu .sub (.reg .l)
  | sub_atHL => exact alu .sub .atHL
  | sub_A => exact alu .sub (.reg .a)
  | sbc_A_B => exact alu .sbc (.reg .b)
  | sbc_A_C => exact alu .sbc (.reg .c)
  | sbc_A_D => exact alu .sbc (.reg .d)
  | sbc_A_E => exact alu .sbc (.reg .e)
  | sbc_A_H => exact alu .sbc (.reg .h)
  | sbc_A_L => exact alu .sbc (.reg .l)
  | sbc_A_atHL => exact alu .sbc .atHL
  | sbc_A_A => exact alu .sbc (.reg .a)
  | and_B => exact alu .and (.reg .b)
  | and_C => exact alu .and (.reg .c)
  | and_D => exact alu .and (.reg .d)
  | and_E => exact alu .and (.reg .e)
  | and_H => exact alu .and (.reg .h)
  | and_L => exact alu .and (.reg .l)
  | and_atHL => exact alu .and .atHL
  | and_A => exact alu .and (.reg .a)
  | xor_B => exact alu .xor (.reg .b)
  | xor_C => exact alu .xor (.reg .c)
  | xor_D => exact alu .xor (.reg .d)
  | xor_E => exact alu .xor (.reg .e)
  | xor_H => exact alu .xor (.reg .h)
  | xor_L => exact alu .xor (.reg .l)
  | xor_atHL => exact alu .xor .atHL
  | xor_A => exact alu .xor (.reg .a)
  | or_B => exact alu .or (.reg .b)
  | or_C => exact alu .or (.reg .c)
  | or_D => exact alu .or (.reg .d)
  | or_E => exact alu .or (.reg .e)
  | or_H => exact alu .or (.reg .h)
  | or_L => exact alu .or (.reg .l)
  | or_atHL => exact alu .or .atHL
  | or_A => exact alu .or (.reg .a)
  | cp_B => exact alu .cp (.reg .b)
  | cp_C => exact alu .cp (.reg .c)
  | cp_D => exact alu .cp (.reg .d)
  | cp_E => exact alu .cp (.reg .e)
  | cp_H => exact alu .cp (.reg .h)
  | cp_L => exact alu .cp (.reg .l)
  | cp_atHL => exact alu .cp .atHL
  | cp_A => exact alu .cp (.reg .a)
  | ret_NZ => exact retIf .nz
  | pop_BC => exact pop .bc
  | push_BC => exact push .bc
  | rst_00 => exact rst 0
  | ret_Z => exact retIf .z
  | ret => exact ret
  | prefix_CB => exact unsupported (.prefix_CB, 0xCB) (by simp [Instr.unsupportedList])
  | rst_08 => exact rst 1
  | ret_NC => exact retIf .nc
  | pop_DE => exact pop .de
  | unsupported_D3 => exact unsupported (.unsupported_D3, 0xD3) (by simp [Instr.unsupportedList])
  | push_DE => exact push .de
  | rst_10 => exact rst 2
  | ret_C => exact retIf .c
  | reti => exact reti
  | unsupported_DB => exact unsupported (.unsupported_DB, 0xDB) (by simp [Instr.unsupportedList])
  | unsupported_DD => exact unsupported (.unsupported_DD, 0xDD) (by simp [Instr.unsupportedList])
  | rst_18 => exact rst 3
  | pop_HL => exact pop .hl
  | ld_atC_A => exact ldAtCA
  | unsupported_E3 => exact unsupported (.unsupported_E3, 0xE3) (by simp [Instr.unsupportedList])
  | unsupported_E4 => exact unsupported (.unsupported_E4, 0xE4) (by simp [Instr.unsupportedList])
  | push_HL => exact push .hl
  | rst_20 => exact rst 4
  | jp_HL => exact jpHL
  | unsupported_EB => exact unsupported (.unsupported_EB, 0xEB) (by simp [Instr.unsupportedList])
  | unsupported_EC => exact unsupported (.unsupported_EC, 0xEC) (by simp [Instr.unsupportedList])
  | unsupported_ED => exact unsupported (.unsupported_ED, 0xED) (by simp [Instr.unsupportedList])
  | rst_28 => exact rst 5
  | pop_AF => exact pop .af
  | ld_A_atC => exact ldAAtC
  | di => exact di
  | unsupported_F4 => exact unsupported (.unsupported_F4, 0xF4) (by simp [Instr.unsupportedList])
  | push_AF => exact push .af
  | rst_30 => exact rst 6
  | ld_SP_HL => exact ldSPHL
  | ei => exact ei
  | unsupported_FC => exact unsupported (.unsupported_FC, 0xFC) (by simp [Instr.unsupportedList])
  | unsupported_FD => exact unsupported (.unsupported_FD, 0xFD) (by simp [Instr.unsupportedList])
  | rst_38 => exact rst 7

end Sys2Proof.Laws
end

