-- ==== Sys2Proof/Laws/Ops.lean ====
section
/-! SUPPORT. The laws of sequencing, of the stack and of interrupt dispatch. -/

namespace Sys2Proof.Laws

open Sys2Proof.Machine

@[simp] theorem andThen_next (s : State) (k : State → Out) : andThen (.next s) k = k s := rfl

/-- A sequence that answers a next state went through a next state. -/
theorem andThen_eq_next {o : Out} {k : State → Out} {t : State} (h : andThen o k = .next t) :
    ∃ m, o = .next m ∧ k m = .next t := by
  cases o with
  | next m => exact ⟨m, rfl, h⟩
  | fault r => cases h
  | refused r => cases h

/-- The end of an instruction adds its cost, and nothing else (30_encoding.md R126). -/
theorem finish_eq_next {op : Byte} {taken : Bool} {s t : State} (h : finish op taken s = .next t) :
    t = { s with ticks := s.ticks + cost op taken } := by
  injection h with h
  exact h.symm

/-- `P` holds of every state the outcome can leave: the next state, or the state at a fatal fault before the fault was
recorded. The only faults are writes to ROM, and there is no refusal. -/
def OutAll (P : State → Prop) (o : Out) : Prop :=
  match o with
  | .next t => P t
  | .fault (.fatal r u) =>
    ∃ a v w, r = .romWrite a v ∧ a.toNat ≤ 0x7FFF ∧ P w ∧ u = { w with fatal := some r }
  | .fault (.noStep _) => False
  | .refused _ => False

theorem outAll_andThen {P : State → Prop} {o : Out} {k : State → Out} (ho : OutAll P o)
    (hk : ∀ t, P t → OutAll P (k t)) : OutAll P (andThen o k) := by
  cases o with
  | next s => exact hk s ho
  | fault r => exact ho
  | refused r => exact ho

theorem outAll_next {P : State → Prop} {o : Out} {t : State} (h : OutAll P o) (e : o = .next t) : P t := by
  rw [e] at h
  exact h

theorem outAll_writeByte {P : State → Prop} {a : Word} {v : Byte} {s : State} (hs : P s)
    (hw : ∀ t, writeByte a v s = .next t → P t) : OutAll P (writeByte a v s) := by
  rcases writeByte_cases a v s with ⟨ha, e⟩ | ⟨-, r, off, -, e⟩ | ⟨-, q, -, -, e⟩
  · rw [e]
    exact ⟨a, v, s, rfl, ha, hs, rfl⟩
  · rw [e]
    exact hw _ e
  · rw [e]
    exact hw _ e

/-- The changes an instruction is made of. A property kept by each of them is kept by every instruction
(`Laws.exec_all`). -/
structure Closed (P : State → Prop) : Prop where
  reg : ∀ s r v, P s → P (s.setReg r v)
  flag : ∀ s k v, P s → P (s.setFlag k v)
  sp : ∀ (s : State) v, P s → P { s with sp := v }
  pc : ∀ (s : State) v, P s → P { s with pc := v }
  ime : ∀ (s : State) v, P s → P { s with ime := v }
  ticks : ∀ (s : State) n, P s → P { s with ticks := s.ticks + n }
  stopped : ∀ s : State, P s → P { s with stopped := true }
  unsupported : ∀ (s : State) e, P s → P { s with log := s.log ++ [e], unsupportedSeen := true }
  write : ∀ s t a v, P s → writeByte a v s = .next t → P t

section
variable {P : State → Prop} (hP : Closed P) {s : State} (hs : P s)
include hP hs

theorem closed_finish (op : Byte) (taken : Bool) : OutAll P (finish op taken s) := hP.ticks _ _ hs

theorem closed_writeByte (a : Word) (v : Byte) : OutAll P (writeByte a v s) :=
  outAll_writeByte hs fun _ h => hP.write _ _ _ _ hs h

theorem closed_writeShort (a v : Word) : OutAll P (writeShort a v s) :=
  outAll_andThen (closed_writeByte hP hs _ _) fun _ ht => closed_writeByte hP ht _ _

theorem closed_push16 (v : Word) : OutAll P (push16 v s) := closed_writeShort hP (hP.sp _ _ hs) _ _

theorem closed_setHL (v : Word) : P (s.setHL v) :=
  hP.reg (s.setReg .h (hiByte v)) .l (loByte v) (hP.reg s .h (hiByte v) hs)

theorem closed_setBC (v : Word) : P (s.setBC v) :=
  hP.reg (s.setReg .b (hiByte v)) .c (loByte v) (hP.reg s .b (hiByte v) hs)

theorem closed_setDE (v : Word) : P (s.setDE v) :=
  hP.reg (s.setReg .d (hiByte v)) .e (loByte v) (hP.reg s .d (hiByte v) hs)

theorem closed_setFlags (v : FlagVals) : P (s.setFlags v) :=
  hP.flag _ _ _ (hP.flag _ _ _ (hP.flag _ _ _ (hP.flag _ _ _ hs)))

theorem closed_setAF (v : Word) : P (s.setAF v) := closed_setFlags hP (hP.reg _ .a _ hs) _

theorem closed_setPair (p : Pair) (v : Word) : P (s.setPair p v) := by
  cases p
  · exact closed_setBC hP hs v
  · exact closed_setDE hP hs v
  · exact closed_setHL hP hs v
  · exact hP.sp _ _ hs

theorem closed_setStackPair (p : StackPair) (v : Word) : P (s.setStackPair p v) := by
  cases p
  · exact closed_setBC hP hs v
  · exact closed_setDE hP hs v
  · exact closed_setHL hP hs v
  · exact closed_setAF hP hs v

theorem closed_consume (n : Nat) : P (s.consume n) := hP.pc _ _ hs

theorem closed_dropTop : P s.dropTop := hP.sp _ _ hs

/-- Dispatch keeps what the clearing of a pending bit and the changes of `Closed` keep (60_exceptions.md R522). -/
theorem closed_dispatch (k : Source) (clear : ∀ s : State, P s → P { s with ifl := withBit s.ifl k.bit false }) :
    OutAll P (dispatch k s) :=
  outAll_andThen (closed_push16 hP (clear _ hs) _) fun t ht =>
    hP.ticks _ dispatchTicks (hP.pc _ k.vector (hP.ime t false ht))

theorem closed_interruptStep (clear : ∀ (s : State) (k : Source), P s → P { s with ifl := withBit s.ifl k.bit false }) :
    OutAll P (interruptStep s) := by
  unfold interruptStep
  split
  · split
    · exact hs
    · exact closed_dispatch hP hs _ fun s h => clear s _ h
  · exact hs

end

/-- What the interrupt phase does (R520): nothing, or one dispatch of the enabled pending source of highest priority. -/
theorem interruptStep_cases (s : State) :
    (interruptStep s = .next s ∧ (s.ime = false ∨ pendingSource s.ie s.ifl = none)) ∨
    (s.ime = true ∧ ∃ k, pendingSource s.ie s.ifl = some k ∧ interruptStep s = dispatch k s) := by
  unfold interruptStep
  cases h : s.ime with
  | false => exact .inl ⟨rfl, .inl rfl⟩
  | true =>
    cases hk : pendingSource s.ie s.ifl with
    | none => exact .inl ⟨rfl, .inr rfl⟩
    | some k => exact .inr ⟨rfl, k, rfl, rfl⟩

/-- The source found is enabled and pending, and no source with a lower bit is (R521). -/
theorem pendingSource_eq_some {ie ifl : Byte} {k : Source} (h : pendingSource ie ifl = some k) :
    (ie.getLsbD k.bit = true ∧ ifl.getLsbD k.bit = true) ∧
      ∀ j : Source, j.bit < k.bit → ¬ (ie.getLsbD j.bit = true ∧ ifl.getLsbD j.bit = true) := by
  have hit := List.find?_some h
  simp only [Bool.and_eq_true] at hit
  refine ⟨hit, fun j hj hjp => ?_⟩
  simp only [pendingSource, List.find?_cons] at h
  cases k <;> cases j <;> simp [Source.bit] at hj hjp hit h <;> (repeat' split at h) <;> simp_all

theorem pendingSource_eq_none {ie ifl : Byte} :
    pendingSource ie ifl = none ↔ ∀ k : Source, ¬ (ie.getLsbD k.bit = true ∧ ifl.getLsbD k.bit = true) := by
  simp only [pendingSource, List.find?_eq_none, Bool.and_eq_true]
  constructor
  · intro h k
    exact h k (by cases k <;> simp)
  · intro h k _
    exact h k

/-- A push that is not fatal (20_memory.md R93): both bytes are outside ROM. -/
theorem push16_eq_next {v : Word} {s t : State} (h : push16 v s = .next t) :
    ∃ m, writeByte (s.sp - 2) (loByte v) { s with sp := s.sp - 2 } = .next m ∧
      writeByte (s.sp - 2 + 1) (hiByte v) m = .next t := andThen_eq_next h

theorem writeShort_next {a v : Word} {s : State} (h1 : 0x7FFF < a.toNat) (h2 : 0x7FFF < (a + 1).toNat) :
    ∃ t, writeShort a v s = .next t := by
  obtain ⟨m, hm⟩ := (writeByte_next_iff a (loByte v) s).2 h1
  obtain ⟨t, ht⟩ := (writeByte_next_iff (a + 1) (hiByte v) m).2 h2
  exact ⟨t, by rw [writeShort, hm, andThen_next, ht]⟩

/-- A word write that is not fatal keeps everything but the cells and the intercepted registers. -/
theorem writeShort_frame {a v : Word} {s t : State} (h : writeShort a v s = .next t) :
    t = { s with
      ie := t.ie, ifl := t.ifl, lcdc := t.lcdc, scy := t.scy, scx := t.scx, dma := t.dma, mem := t.mem } := by
  obtain ⟨m, h1, h2⟩ := andThen_eq_next h
  rw [writeByte_frame h2, writeByte_frame h1]

end Sys2Proof.Laws
end

