-- ==== Sys2Proof/Laws/Exec.lean ====
section
/-! SUPPORT. What each family's instructions do, as one equation per family over the shared operations, and the
induction over all instructions (`exec_all`). A proof about an instruction cites its equation and never unfolds `exec`. -/

namespace Sys2Proof.Laws

open Sys2Proof.Machine

/-! ### One equation per family: `exec` of the family's instruction is the shared operation -/

theorem exec_ldReg (dst src : Reg) (s : State) :
    exec (.ldReg dst src) s = ldRegReg (Instr.ldReg dst src).opcode dst src s := by
  cases dst <;> cases src <;> rfl

theorem exec_ldImm (r : Reg) (n : Byte) (s : State) : exec (.ldImm r n) s = ldRegImm (Instr.ldImm r n).opcode r n s := by
  cases r <;> rfl

theorem exec_ldFromHL (r : Reg) (s : State) : exec (.ldFromHL r) s = loadReg (Instr.ldFromHL r).opcode r s.hl s := by
  cases r <;> rfl

theorem exec_ldToHL (r : Reg) (s : State) : exec (.ldToHL r) s = store (Instr.ldToHL r).opcode s.hl (s.reg r) s := by
  cases r <;> rfl

theorem exec_ldPair (p : Pair) (v : Word) (s : State) :
    exec (.ldPair p v) s = ldPairImm (Instr.ldPair p v).opcode p v s := by
  cases p <;> rfl

theorem exec_push (p : StackPair) (s : State) : exec (.push p) s = pushPair (Instr.push p).opcode p s := by
  cases p <;> rfl

theorem exec_pop (p : StackPair) (s : State) : exec (.pop p) s = popPair (Instr.pop p).opcode p s := by
  cases p <;> rfl

theorem exec_alu (k : AluOp) (src : AluSrc) (s : State) : exec (.alu k src) s = aluA (Instr.alu k src).opcode k src s := by
  rcases src with r | - | n
  · cases k <;> cases r <;> rfl
  · cases k <;> rfl
  · cases k <;> rfl

theorem exec_incReg (r : Reg) (s : State) : exec (.incReg r) s = incReg8 (Instr.incReg r).opcode r s := by
  cases r <;> rfl

theorem exec_decReg (r : Reg) (s : State) : exec (.decReg r) s = decReg8 (Instr.decReg r).opcode r s := by
  cases r <;> rfl

theorem exec_incPair (p : Pair) (s : State) : exec (.incPair p) s = incPair16 (Instr.incPair p).opcode p s := by
  cases p <;> rfl

theorem exec_decPair (p : Pair) (s : State) : exec (.decPair p) s = decPair16 (Instr.decPair p).opcode p s := by
  cases p <;> rfl

theorem exec_addHL (p : Pair) (s : State) : exec (.addHL p) s = addHLPair (Instr.addHL p).opcode p s := by
  cases p <;> rfl

theorem exec_jrIf (cc : Cond) (e : Byte) (s : State) :
    exec (.jrIf cc e) s = jumpRelativeIf (Instr.jrIf cc e).opcode cc e s := by
  cases cc <;> rfl

theorem exec_jpIf (cc : Cond) (a : Word) (s : State) : exec (.jpIf cc a) s = jumpIf (Instr.jpIf cc a).opcode cc a s := by
  cases cc <;> rfl

theorem exec_callIf (cc : Cond) (a : Word) (s : State) :
    exec (.callIf cc a) s = callIf (Instr.callIf cc a).opcode cc a s := by
  cases cc <;> rfl

theorem exec_retIf (cc : Cond) (s : State) : exec (.retIf cc) s = returnIf (Instr.retIf cc).opcode cc s := by
  cases cc <;> rfl

theorem exec_rst (y : Fin 8) (s : State) : exec (.rst y) s = callTo (Instr.rst y).opcode false (rstTarget y) s := by
  revert y
  exact fun | 0 => rfl | 1 => rfl | 2 => rfl | 3 => rfl | 4 => rfl | 5 => rfl | 6 => rfl | 7 => rfl

theorem exec_unsupported {p : Instr × Byte} (h : p ∈ Instr.unsupportedList) (s : State) :
    exec p.1 s = unsupported p.2 s := by
  simp only [Instr.unsupportedList, List.mem_cons, List.not_mem_nil, or_false] at h
  rcases h with h | h | h | h | h | h | h | h | h | h | h | h <;> (subst h; rfl)

/-! ### The shared operations keep what `Closed` properties say -/

section
variable {P : State → Prop} (hP : Closed P) {s : State} (hs : P s)
include hP hs

theorem closed_store (op : Byte) (a : Word) (v : Byte) : OutAll P (store op a v s) :=
  outAll_andThen (closed_writeByte hP hs a v) fun _ h => closed_finish hP h op false

theorem closed_callTo (op : Byte) (taken : Bool) (target : Word) : OutAll P (callTo op taken target s) :=
  outAll_andThen (closed_push16 hP hs _) fun _ h => closed_finish hP (hP.pc _ target h) op taken

theorem closed_returnFrom (op : Byte) (taken : Bool) : OutAll P (returnFrom op taken s) :=
  closed_finish hP (hP.pc _ _ (closed_dropTop hP hs)) op taken

/-- What every change of `Closed` keeps, every instruction keeps, whether it answers a next state or a fatal fault; and
no instruction is refused. -/
theorem exec_all (i : Instr) : OutAll P (exec i s) := by
  have fin : ∀ {t : State} (op : Byte) (taken : Bool), P t → OutAll P (finish op taken t) :=
    fun op taken h => closed_finish hP h op taken
  have c1 : P (s.consume 1) := closed_consume hP hs 1
  have c2 : P (s.consume 2) := closed_consume hP hs 2
  induction i using instr_by_family with
  | ldReg dst src => rw [exec_ldReg]; exact fin _ _ (hP.reg _ _ _ hs)
  | ldImm r n => rw [exec_ldImm]; exact fin _ _ (hP.reg _ _ _ c1)
  | ldFromHL r => rw [exec_ldFromHL]; exact fin _ _ (hP.reg _ _ _ hs)
  | ldToHL r => rw [exec_ldToHL]; exact closed_store hP hs _ _ _
  | ldAtHL n => exact closed_store hP c1 _ _ _
  | ldAAtBC => exact fin _ _ (hP.reg s .a _ hs)
  | ldAAtDE => exact fin _ _ (hP.reg s .a _ hs)
  | ldAtBCA => exact closed_store hP hs _ _ _
  | ldAtDEA => exact closed_store hP hs _ _ _
  | ldAtHLincA =>
    exact outAll_andThen (closed_writeByte hP hs _ _) fun _ h => fin _ _ (closed_setHL hP h _)
  | ldAAtHLinc => exact fin _ _ (closed_setHL hP (hP.reg s .a _ hs) _)
  | ldAtHLdecA =>
    exact outAll_andThen (closed_writeByte hP hs _ _) fun _ h => fin _ _ (closed_setHL hP h _)
  | ldAAtHLdec => exact fin _ _ (closed_setHL hP (hP.reg s .a _ hs) _)
  | ldAtA16A a => exact closed_store hP c2 _ _ _
  | ldAAtA16 a => exact fin _ _ (hP.reg (s.consume 2) .a _ c2)
  | ldhAtA8A n => exact closed_store hP c1 _ _ _
  | ldhAAtA8 n => exact fin _ _ (hP.reg (s.consume 1) .a _ c1)
  | ldAtCA => exact closed_store hP hs _ _ _
  | ldAAtC => exact fin _ _ (hP.reg s .a _ hs)
  | ldPair p v => rw [exec_ldPair]; exact fin _ _ (closed_setPair hP c2 _ _)
  | ldAtA16SP a => exact outAll_andThen (closed_writeShort hP c2 _ _) fun _ h => fin _ _ h
  | ldSPHL => exact fin _ _ (hP.sp s _ hs)
  | ldHLSPe8 e => exact fin _ _ (closed_setFlags hP (closed_setHL hP c1 _) _)
  | push p => rw [exec_push]; exact outAll_andThen (closed_push16 hP hs _) fun _ h => fin _ _ h
  | pop p => rw [exec_pop]; exact fin _ _ (closed_setStackPair hP (closed_dropTop hP hs) _ _)
  | alu k src =>
    rw [exec_alu]
    exact fin _ _ (closed_setFlags hP (hP.reg (s.consume _) .a _ (closed_consume hP hs _)) _)
  | incReg r =>
    rw [exec_incReg]
    exact fin _ _ (hP.flag _ _ _ (hP.flag _ _ _ (hP.flag _ _ _ (hP.reg _ _ _ hs))))
  | incAtHL =>
    exact outAll_andThen (closed_writeByte hP hs _ _) fun _ h =>
      fin _ _ (hP.flag _ _ _ (hP.flag _ _ _ (hP.flag _ _ _ h)))
  | decReg r =>
    rw [exec_decReg]
    exact fin _ _ (hP.flag _ _ _ (hP.flag _ _ _ (hP.flag _ _ _ (hP.reg _ _ _ hs))))
  | decAtHL =>
    exact outAll_andThen (closed_writeByte hP hs _ _) fun _ h =>
      fin _ _ (hP.flag _ _ _ (hP.flag _ _ _ (hP.flag _ _ _ h)))
  | incPair p => rw [exec_incPair]; exact fin _ _ (closed_setPair hP hs _ _)
  | decPair p => rw [exec_decPair]; exact fin _ _ (closed_setPair hP hs _ _)
  | addHL p =>
    rw [exec_addHL]
    exact fin _ _ (hP.flag _ _ _ (hP.flag _ _ _ (hP.flag _ _ _ (closed_setHL hP hs _))))
  | addSPe8 e => exact fin _ _ (closed_setFlags hP (hP.sp (s.consume 1) _ c1) _)
  | rlca => exact fin _ _ (closed_setFlags hP (hP.reg s .a _ hs) _)
  | rrca => exact fin _ _ (closed_setFlags hP (hP.reg s .a _ hs) _)
  | rla => exact fin _ _ (closed_setFlags hP (hP.reg s .a _ hs) _)
  | rra => exact fin _ _ (closed_setFlags hP (hP.reg s .a _ hs) _)
  | daa => exact fin _ _ (hP.flag _ _ _ (hP.flag _ _ _ (hP.flag _ _ _ (hP.reg s .a _ hs))))
  | cpl => exact fin _ _ (hP.flag _ _ _ (hP.flag _ _ _ (hP.reg s .a _ hs)))
  | scf => exact fin _ _ (hP.flag _ _ _ (hP.flag _ _ _ (hP.flag _ _ _ hs)))
  | ccf => exact fin _ _ (hP.flag _ _ _ (hP.flag _ _ _ (hP.flag _ _ _ hs)))
  | jr e => exact fin _ _ (hP.pc (s.consume 1) _ c1)
  | jrIf cc e =>
    rw [exec_jrIf]
    unfold jumpRelativeIf
    split
    · exact fin _ _ (hP.pc (s.consume 1) _ c1)
    · exact fin _ _ c1
  | jp a => exact fin _ _ (hP.pc (s.consume 2) a c2)
  | jpIf cc a =>
    rw [exec_jpIf]
    unfold jumpIf
    split
    · exact fin _ _ (hP.pc (s.consume 2) a c2)
    · exact fin _ _ c2
  | jpHL => exact fin _ _ (hP.pc s _ hs)
  | call a => exact closed_callTo hP c2 _ _ _
  | callIf cc a =>
    rw [exec_callIf]
    unfold callIf
    split
    · exact closed_callTo hP c2 _ _ _
    · exact fin _ _ c2
  | ret => exact closed_returnFrom hP hs _ _
  | retIf cc =>
    rw [exec_retIf]
    unfold returnIf
    split
    · exact closed_returnFrom hP hs _ _
    · exact fin _ _ hs
  | reti => exact fin _ _ (hP.pc _ _ (hP.ime _ true (closed_dropTop hP hs)))
  | rst y => rw [exec_rst]; exact closed_callTo hP hs _ _ _
  | nop => exact fin _ _ hs
  | halt => exact fin _ _ hs
  | stop n => exact fin _ _ (hP.stopped _ c1)
  | di => exact fin _ _ (hP.ime s false hs)
  | ei => exact fin _ _ (hP.ime s true hs)
  | unsupported p h => rw [exec_unsupported h]; exact fin _ _ (hP.unsupported s _ hs)

end

/-! ### One step -/

theorem step_stopped {s : State} (hf : s.fatal = none) (h : s.stopped = true) : step s = .next s := by
  simp only [step, hf, h, if_pos]

theorem step_running {s : State} (hf : s.fatal = none) (h : s.stopped = false) :
    step s = andThen (exec (fetch s) { s with pc := s.pc + 1 }) fun s => interruptStep (timerPhase s) := by
  simp only [step, hf, h]
  rfl

/-- A step that answers a next state was a stopped one, or an instruction, the timer phase and the interrupt phase. -/
theorem step_eq_next {s t : State} (h : step s = .next t) :
    s.fatal = none ∧ ((s.stopped = true ∧ t = s) ∨ (s.stopped = false ∧
      ∃ m, exec (fetch s) { s with pc := s.pc + 1 } = .next m ∧ interruptStep (timerPhase m) = .next t)) := by
  unfold step at h
  split at h
  · cases h
  · next hf =>
    refine ⟨hf, ?_⟩
    split at h
    · next hs => exact .inl ⟨hs, by cases h; rfl⟩
    · next hs => exact .inr ⟨by simpa using hs, andThen_eq_next h⟩

end Sys2Proof.Laws
end

