-- ==== Sys2Proof/Laws/Frames.lean ====
section
/-! SUPPORT. How the frames of Safety.lean are established: field by field, so that no proof compares two states whole. -/

namespace Sys2Proof.Laws

open Sys2Proof.Machine

/-- Two states with the same fields outside the CPU's registers, SP, PC and the ticks: a core frame. -/
theorem coreFrame_of_fields {s t : State} (ime : t.ime = s.ime) (ie : t.ie = s.ie) (ifl : t.ifl = s.ifl)
    (mode : t.mode = s.mode) (line : t.line = s.line) (acc : t.acc = s.acc) (timerSeen : t.timerSeen = s.timerSeen)
    (lcdc : t.lcdc = s.lcdc) (scy : t.scy = s.scy) (scx : t.scx = s.scx) (dma : t.dma = s.dma)
    (stopped : t.stopped = s.stopped) (fatal : t.fatal = s.fatal) (seen : t.unsupportedSeen = s.unsupportedSeen)
    (log : t.log = s.log) (mem : t.mem = s.mem) : CoreFrame s t := by
  constructor
  · cases s
    cases t
    simp_all
  · refine readByte_congr mem fun q => ?_
    cases q
    · exact ifl
    · exact lcdc
    · exact scy
    · exact scx
    · exact congrArg (BitVec.ofNat 8) line
    · exact dma
    · exact ie

/-- A store frame from what the store leaves alone: IME, the timer's fields, the latches and the log. -/
theorem storeFrame_of_fields {s t : State} (ime : t.ime = s.ime) (mode : t.mode = s.mode) (line : t.line = s.line)
    (acc : t.acc = s.acc) (timerSeen : t.timerSeen = s.timerSeen) (stopped : t.stopped = s.stopped)
    (fatal : t.fatal = s.fatal) (seen : t.unsupportedSeen = s.unsupportedSeen) (log : t.log = s.log) : StoreFrame s t := by
  cases s
  cases t
  simp_all [StoreFrame]

theorem StoreKept.storeFrame {s t : State} (k : StoreKept s t) : StoreFrame s t :=
  storeFrame_of_fields k.ime k.mode k.line k.acc k.timerSeen k.stopped k.fatal k.unsupportedSeen k.log

/-- The flags a state shows depend on F alone. -/
theorem flagsBecome_congr {s t t' : State} {z n h c : Bool} (k : FlagsBecome s t z n h c) (e : t'.f = t.f) :
    FlagsBecome s t' z n h c := by
  obtain ⟨kz, kn, kh, kc, kl⟩ := k
  exact ⟨(flag_congr e _).trans kz, (flag_congr e _).trans kn, (flag_congr e _).trans kh, (flag_congr e _).trans kc,
    by rw [e, kl]⟩

theorem flagsBecome_setFlags (s : State) (v : FlagVals) : FlagsBecome s (s.setFlags v) v.z v.n v.h v.c :=
  ⟨flag_setFlags_z _ _, flag_setFlags_n _ _, flag_setFlags_h _ _, flag_setFlags_c _ _, setFlags_lowNibble _ _⟩

end Sys2Proof.Laws
end

