-- ==== Sys2Proof/Laws/HostOps.lean ====
section
/-! SUPPORT. The laws of construction and of placing bytes: both keep the canonical form. -/

namespace Sys2Proof.Laws

open Sys2Proof.Machine

/-- Every ROM cell has a key of the image's addresses and does not hold the unlisted byte. -/
theorem mem_romCells {img : List Byte} {k : Nat} {x : Host.Cell} (h : x ∈ romCells img k) :
    k ≤ x.1 ∧ x.1 < k + img.length ∧ x.2 ≠ Memory.unlisted := by
  induction img generalizing k with
  | nil => exact absurd h List.not_mem_nil
  | cons v img ih =>
    simp only [romCells] at h
    split at h
    · have := ih h
      simp only [List.length_cons]
      exact ⟨by omega, by omega, this.2.2⟩
    · next hv =>
      rcases List.mem_cons.1 h with rfl | h
      · simp only [List.length_cons]
        exact ⟨Nat.le_refl _, by omega, hv⟩
      · have := ih h
        simp only [List.length_cons]
        exact ⟨by omega, by omega, this.2.2⟩

/-- The cells of a program image are in canonical form (70_reset_and_hazards.md R600). -/
theorem romCells_wf (img : List Byte) (k : Nat) (h : k + img.length ≤ 0x8000) : (romCells img k).wf := by
  induction img generalizing k with
  | nil => exact wf_nil
  | cons v img ih =>
    simp only [List.length_cons] at h
    simp only [romCells]
    split
    · exact ih _ (by omega)
    · next hv =>
      refine wf_cons.2 ⟨fun y hy => ?_, ⟨hv, (isKey_iff _).2 (by omega)⟩, ih _ (by omega)⟩
      have := mem_romCells hy
      change k < y.1
      omega

/-- A placed byte keeps the canonical form. -/
theorem poke_wf {s : State} (wf : s.mem.wf) (a : Word) (v : Byte) : (s.poke a v).mem.wf := by
  unfold State.poke
  cases h : route a with
  | array r off => exact write_wf wf (isKey_of_route h) v
  | reg q => cases q <;> exact wf

theorem withFetchWord_wf {s : State} (wf : s.mem.wf) (nbits w : Nat) : (s.withFetchWord nbits w).mem.wf := by
  unfold State.withFetchWord tableBytes
  have start : ({ s with stopped := false, fatal := none } : State).mem.wf := wf
  exact poke_wf (poke_wf (poke_wf start _ _) _ _) _ _

theorem reset_wf : State.reset.mem.wf := wf_nil

end Sys2Proof.Laws
end

