-- ==== Sys2Proof/Laws/PerInstr.lean ====
section
/-! SUPPORT. The family of laws stated for every instruction, as syntax: the opcode byte and the length of the
encoding are those of the instruction's row of opcode_table.json. -/

namespace Sys2Proof.Laws.OpcodeAndLength

/-- The bytes of `i` begin with its opcode byte, and their number is the length that the opcode map gives that byte. -/
def Statement (i : Instr) : Prop := (encode i).head? = some i.opcode ∧ i.length = (form i.opcode).length

/-- The statement from the opcode byte and the length written out. -/
theorem of_bytes {i : Instr} (op : Byte) (k : Nat) (head : (encode i).head? = some op) (length : i.length = k)
    (mapped : (form op).length = k) : Statement i := by
  have opcode : i.opcode = op := by
    unfold Instr.opcode
    rw [List.headD_eq_head?_getD, head]
    rfl
  exact ⟨opcode ▸ head, by rw [opcode, mapped, length]⟩

theorem nop : Statement (.nop) := of_bytes 0x00 1 rfl rfl rfl
theorem ld_BC_d16 (v : Word) : Statement (.ld_BC_d16 v) := of_bytes 0x01 3 rfl rfl rfl
theorem ld_atBC_A : Statement (.ld_atBC_A) := of_bytes 0x02 1 rfl rfl rfl
theorem inc_BC : Statement (.inc_BC) := of_bytes 0x03 1 rfl rfl rfl
theorem inc_B : Statement (.inc_B) := of_bytes 0x04 1 rfl rfl rfl
theorem dec_B : Statement (.dec_B) := of_bytes 0x05 1 rfl rfl rfl
theorem ld_B_d8 (n : Byte) : Statement (.ld_B_d8 n) := of_bytes 0x06 2 rfl rfl rfl
theorem rlca : Statement (.rlca) := of_bytes 0x07 1 rfl rfl rfl
theorem ld_atA16_SP (a : Word) : Statement (.ld_atA16_SP a) := of_bytes 0x08 3 rfl rfl rfl
theorem add_HL_BC : Statement (.add_HL_BC) := of_bytes 0x09 1 rfl rfl rfl
theorem ld_A_atBC : Statement (.ld_A_atBC) := of_bytes 0x0A 1 rfl rfl rfl
theorem dec_BC : Statement (.dec_BC) := of_bytes 0x0B 1 rfl rfl rfl
theorem inc_C : Statement (.inc_C) := of_bytes 0x0C 1 rfl rfl rfl
theorem dec_C : Statement (.dec_C) := of_bytes 0x0D 1 rfl rfl rfl
theorem ld_C_d8 (n : Byte) : Statement (.ld_C_d8 n) := of_bytes 0x0E 2 rfl rfl rfl
theorem rrca : Statement (.rrca) := of_bytes 0x0F 1 rfl rfl rfl
theorem stop (n : Byte) : Statement (.stop n) := of_bytes 0x10 2 rfl rfl rfl
theorem ld_DE_d16 (v : Word) : Statement (.ld_DE_d16 v) := of_bytes 0x11 3 rfl rfl rfl
theorem ld_atDE_A : Statement (.ld_atDE_A) := of_bytes 0x12 1 rfl rfl rfl
theorem inc_DE : Statement (.inc_DE) := of_bytes 0x13 1 rfl rfl rfl
theorem inc_D : Statement (.inc_D) := of_bytes 0x14 1 rfl rfl rfl
theorem dec_D : Statement (.dec_D) := of_bytes 0x15 1 rfl rfl rfl
theorem ld_D_d8 (n : Byte) : Statement (.ld_D_d8 n) := of_bytes 0x16 2 rfl rfl rfl
theorem rla : Statement (.rla) := of_bytes 0x17 1 rfl rfl rfl
theorem jr_e8 (e : Byte) : Statement (.jr_e8 e) := of_bytes 0x18 2 rfl rfl rfl
theorem add_HL_DE : Statement (.add_HL_DE) := of_bytes 0x19 1 rfl rfl rfl
theorem ld_A_atDE : Statement (.ld_A_atDE) := of_bytes 0x1A 1 rfl rfl rfl
theorem dec_DE : Statement (.dec_DE) := of_bytes 0x1B 1 rfl rfl rfl
theorem inc_E : Statement (.inc_E) := of_bytes 0x1C 1 rfl rfl rfl
theorem dec_E : Statement (.dec_E) := of_bytes 0x1D 1 rfl rfl rfl
theorem ld_E_d8 (n : Byte) : Statement (.ld_E_d8 n) := of_bytes 0x1E 2 rfl rfl rfl
theorem rra : Statement (.rra) := of_bytes 0x1F 1 rfl rfl rfl
theorem jr_NZ_e8 (e : Byte) : Statement (.jr_NZ_e8 e) := of_bytes 0x20 2 rfl rfl rfl
theorem ld_HL_d16 (v : Word) : Statement (.ld_HL_d16 v) := of_bytes 0x21 3 rfl rfl rfl
theorem ld_atHLinc_A : Statement (.ld_atHLinc_A) := of_bytes 0x22 1 rfl rfl rfl
theorem inc_HL : Statement (.inc_HL) := of_bytes 0x23 1 rfl rfl rfl
theorem inc_H : Statement (.inc_H) := of_bytes 0x24 1 rfl rfl rfl
theorem dec_H : Statement (.dec_H) := of_bytes 0x25 1 rfl rfl rfl
theorem ld_H_d8 (n : Byte) : Statement (.ld_H_d8 n) := of_bytes 0x26 2 rfl rfl rfl
theorem daa : Statement (.daa) := of_bytes 0x27 1 rfl rfl rfl
theorem jr_Z_e8 (e : Byte) : Statement (.jr_Z_e8 e) := of_bytes 0x28 2 rfl rfl rfl
theorem add_HL_HL : Statement (.add_HL_HL) := of_bytes 0x29 1 rfl rfl rfl
theorem ld_A_atHLinc : Statement (.ld_A_atHLinc) := of_bytes 0x2A 1 rfl rfl rfl
theorem dec_HL : Statement (.dec_HL) := of_bytes 0x2B 1 rfl rfl rfl
theorem inc_L : Statement (.inc_L) := of_bytes 0x2C 1 rfl rfl rfl
theorem dec_L : Statement (.dec_L) := of_bytes 0x2D 1 rfl rfl rfl
theorem ld_L_d8 (n : Byte) : Statement (.ld_L_d8 n) := of_bytes 0x2E 2 rfl rfl rfl
theorem cpl : Statement (.cpl) := of_bytes 0x2F 1 rfl rfl rfl
theorem jr_NC_e8 (e : Byte) : Statement (.jr_NC_e8 e) := of_bytes 0x30 2 rfl rfl rfl
theorem ld_SP_d16 (v : Word) : Statement (.ld_SP_d16 v) := of_bytes 0x31 3 rfl rfl rfl
theorem ld_atHLdec_A : Statement (.ld_atHLdec_A) := of_bytes 0x32 1 rfl rfl rfl
theorem inc_SP : Statement (.inc_SP) := of_bytes 0x33 1 rfl rfl rfl
theorem inc_atHL : Statement (.inc_atHL) := of_bytes 0x34 1 rfl rfl rfl
theorem dec_atHL : Statement (.dec_atHL) := of_bytes 0x35 1 rfl rfl rfl
theorem ld_atHL_d8 (n : Byte) : Statement (.ld_atHL_d8 n) := of_bytes 0x36 2 rfl rfl rfl
theorem scf : Statement (.scf) := of_bytes 0x37 1 rfl rfl rfl
theorem jr_C_e8 (e : Byte) : Statement (.jr_C_e8 e) := of_bytes 0x38 2 rfl rfl rfl
theorem add_HL_SP : Statement (.add_HL_SP) := of_bytes 0x39 1 rfl rfl rfl
theorem ld_A_atHLdec : Statement (.ld_A_atHLdec) := of_bytes 0x3A 1 rfl rfl rfl
theorem dec_SP : Statement (.dec_SP) := of_bytes 0x3B 1 rfl rfl rfl
theorem inc_A : Statement (.inc_A) := of_bytes 0x3C 1 rfl rfl rfl
theorem dec_A : Statement (.dec_A) := of_bytes 0x3D 1 rfl rfl rfl
theorem ld_A_d8 (n : Byte) : Statement (.ld_A_d8 n) := of_bytes 0x3E 2 rfl rfl rfl
theorem ccf : Statement (.ccf) := of_bytes 0x3F 1 rfl rfl rfl
theorem ld_B_B : Statement (.ld_B_B) := of_bytes 0x40 1 rfl rfl rfl
theorem ld_B_C : Statement (.ld_B_C) := of_bytes 0x41 1 rfl rfl rfl
theorem ld_B_D : Statement (.ld_B_D) := of_bytes 0x42 1 rfl rfl rfl
theorem ld_B_E : Statement (.ld_B_E) := of_bytes 0x43 1 rfl rfl rfl
theorem ld_B_H : Statement (.ld_B_H) := of_bytes 0x44 1 rfl rfl rfl
theorem ld_B_L : Statement (.ld_B_L) := of_bytes 0x45 1 rfl rfl rfl
theorem ld_B_atHL : Statement (.ld_B_atHL) := of_bytes 0x46 1 rfl rfl rfl
theorem ld_B_A : Statement (.ld_B_A) := of_bytes 0x47 1 rfl rfl rfl
theorem ld_C_B : Statement (.ld_C_B) := of_bytes 0x48 1 rfl rfl rfl
theorem ld_C_C : Statement (.ld_C_C) := of_bytes 0x49 1 rfl rfl rfl
theorem ld_C_D : Statement (.ld_C_D) := of_bytes 0x4A 1 rfl rfl rfl
theorem ld_C_E : Statement (.ld_C_E) := of_bytes 0x4B 1 rfl rfl rfl
theorem ld_C_H : Statement (.ld_C_H) := of_bytes 0x4C 1 rfl rfl rfl
theorem ld_C_L : Statement (.ld_C_L) := of_bytes 0x4D 1 rfl rfl rfl
theorem ld_C_atHL : Statement (.ld_C_atHL) := of_bytes 0x4E 1 rfl rfl rfl
theorem ld_C_A : Statement (.ld_C_A) := of_bytes 0x4F 1 rfl rfl rfl
theorem ld_D_B : Statement (.ld_D_B) := of_bytes 0x50 1 rfl rfl rfl
theorem ld_D_C : Statement (.ld_D_C) := of_bytes 0x51 1 rfl rfl rfl
theorem ld_D_D : Statement (.ld_D_D) := of_bytes 0x52 1 rfl rfl rfl
theorem ld_D_E : Statement (.ld_D_E) := of_bytes 0x53 1 rfl rfl rfl
theorem ld_D_H : Statement (.ld_D_H) := of_bytes 0x54 1 rfl rfl rfl
theorem ld_D_L : Statement (.ld_D_L) := of_bytes 0x55 1 rfl rfl rfl
theorem ld_D_atHL : Statement (.ld_D_atHL) := of_bytes 0x56 1 rfl rfl rfl
theorem ld_D_A : Statement (.ld_D_A) := of_bytes 0x57 1 rfl rfl rfl
theorem ld_E_B : Statement (.ld_E_B) := of_bytes 0x58 1 rfl rfl rfl
theorem ld_E_C : Statement (.ld_E_C) := of_bytes 0x59 1 rfl rfl rfl
theorem ld_E_D : Statement (.ld_E_D) := of_bytes 0x5A 1 rfl rfl rfl
theorem ld_E_E : Statement (.ld_E_E) := of_bytes 0x5B 1 rfl rfl rfl
theorem ld_E_H : Statement (.ld_E_H) := of_bytes 0x5C 1 rfl rfl rfl
theorem ld_E_L : Statement (.ld_E_L) := of_bytes 0x5D 1 rfl rfl rfl
theorem ld_E_atHL : Statement (.ld_E_atHL) := of_bytes 0x5E 1 rfl rfl rfl
theorem ld_E_A : Statement (.ld_E_A) := of_bytes 0x5F 1 rfl rfl rfl
theorem ld_H_B : Statement (.ld_H_B) := of_bytes 0x60 1 rfl rfl rfl
theorem ld_H_C : Statement (.ld_H_C) := of_bytes 0x61 1 rfl rfl rfl
theorem ld_H_D : Statement (.ld_H_D) := of_bytes 0x62 1 rfl rfl rfl
theorem ld_H_E : Statement (.ld_H_E) := of_bytes 0x63 1 rfl rfl rfl
theorem ld_H_H : Statement (.ld_H_H) := of_bytes 0x64 1 rfl rfl rfl
theorem ld_H_L : Statement (.ld_H_L) := of_bytes 0x65 1 rfl rfl rfl
theorem ld_H_atHL : Statement (.ld_H_atHL) := of_bytes 0x66 1 rfl rfl rfl
theorem ld_H_A : Statement (.ld_H_A) := of_bytes 0x67 1 rfl rfl rfl
theorem ld_L_B : Statement (.ld_L_B) := of_bytes 0x68 1 rfl rfl rfl
theorem ld_L_C : Statement (.ld_L_C) := of_bytes 0x69 1 rfl rfl rfl
theorem ld_L_D : Statement (.ld_L_D) := of_bytes 0x6A 1 rfl rfl rfl
theorem ld_L_E : Statement (.ld_L_E) := of_bytes 0x6B 1 rfl rfl rfl
theorem ld_L_H : Statement (.ld_L_H) := of_bytes 0x6C 1 rfl rfl rfl
theorem ld_L_L : Statement (.ld_L_L) := of_bytes 0x6D 1 rfl rfl rfl
theorem ld_L_atHL : Statement (.ld_L_atHL) := of_bytes 0x6E 1 rfl rfl rfl
theorem ld_L_A : Statement (.ld_L_A) := of_bytes 0x6F 1 rfl rfl rfl
theorem ld_atHL_B : Statement (.ld_atHL_B) := of_bytes 0x70 1 rfl rfl rfl
theorem ld_atHL_C : Statement (.ld_atHL_C) := of_bytes 0x71 1 rfl rfl rfl
theorem ld_atHL_D : Statement (.ld_atHL_D) := of_bytes 0x72 1 rfl rfl rfl
theorem ld_atHL_E : Statement (.ld_atHL_E) := of_bytes 0x73 1 rfl rfl rfl
theorem ld_atHL_H : Statement (.ld_atHL_H) := of_bytes 0x74 1 rfl rfl rfl
theorem ld_atHL_L : Statement (.ld_atHL_L) := of_bytes 0x75 1 rfl rfl rfl
theorem halt : Statement (.halt) := of_bytes 0x76 1 rfl rfl rfl
theorem ld_atHL_A : Statement (.ld_atHL_A) := of_bytes 0x77 1 rfl rfl rfl
theorem ld_A_B : Statement (.ld_A_B) := of_bytes 0x78 1 rfl rfl rfl
theorem ld_A_C : Statement (.ld_A_C) := of_bytes 0x79 1 rfl rfl rfl
theorem ld_A_D : Statement (.ld_A_D) := of_bytes 0x7A 1 rfl rfl rfl
theorem ld_A_E : Statement (.ld_A_E) := of_bytes 0x7B 1 rfl rfl rfl
theorem ld_A_H : Statement (.ld_A_H) := of_bytes 0x7C 1 rfl rfl rfl
theorem ld_A_L : Statement (.ld_A_L) := of_bytes 0x7D 1 rfl rfl rfl
theorem ld_A_atHL : Statement (.ld_A_atHL) := of_bytes 0x7E 1 rfl rfl rfl
theorem ld_A_A : Statement (.ld_A_A) := of_bytes 0x7F 1 rfl rfl rfl
theorem add_A_B : Statement (.add_A_B) := of_bytes 0x80 1 rfl rfl rfl
theorem add_A_C : Statement (.add_A_C) := of_bytes 0x81 1 rfl rfl rfl
theorem add_A_D : Statement (.add_A_D) := of_bytes 0x82 1 rfl rfl rfl
theorem add_A_E : Statement (.add_A_E) := of_bytes 0x83 1 rfl rfl rfl
theorem add_A_H : Statement (.add_A_H) := of_bytes 0x84 1 rfl rfl rfl
theorem add_A_L : Statement (.add_A_L) := of_bytes 0x85 1 rfl rfl rfl
theorem add_A_atHL : Statement (.add_A_atHL) := of_bytes 0x86 1 rfl rfl rfl
theorem add_A_A : Statement (.add_A_A) := of_bytes 0x87 1 rfl rfl rfl
theorem adc_A_B : Statement (.adc_A_B) := of_bytes 0x88 1 rfl rfl rfl
theorem adc_A_C : Statement (.adc_A_C) := of_bytes 0x89 1 rfl rfl rfl
theorem adc_A_D : Statement (.adc_A_D) := of_bytes 0x8A 1 rfl rfl rfl
theorem adc_A_E : Statement (.adc_A_E) := of_bytes 0x8B 1 rfl rfl rfl
theorem adc_A_H : Statement (.adc_A_H) := of_bytes 0x8C 1 rfl rfl rfl
theorem adc_A_L : Statement (.adc_A_L) := of_bytes 0x8D 1 rfl rfl rfl
theorem adc_A_atHL : Statement (.adc_A_atHL) := of_bytes 0x8E 1 rfl rfl rfl
theorem adc_A_A : Statement (.adc_A_A) := of_bytes 0x8F 1 rfl rfl rfl
theorem sub_B : Statement (.sub_B) := of_bytes 0x90 1 rfl rfl rfl
theorem sub_C : Statement (.sub_C) := of_bytes 0x91 1 rfl rfl rfl
theorem sub_D : Statement (.sub_D) := of_bytes 0x92 1 rfl rfl rfl
theorem sub_E : Statement (.sub_E) := of_bytes 0x93 1 rfl rfl rfl
theorem sub_H : Statement (.sub_H) := of_bytes 0x94 1 rfl rfl rfl
theorem sub_L : Statement (.sub_L) := of_bytes 0x95 1 rfl rfl rfl
theorem sub_atHL : Statement (.sub_atHL) := of_bytes 0x96 1 rfl rfl rfl
theorem sub_A : Statement (.sub_A) := of_bytes 0x97 1 rfl rfl rfl
theorem sbc_A_B : Statement (.sbc_A_B) := of_bytes 0x98 1 rfl rfl rfl
theorem sbc_A_C : Statement (.sbc_A_C) := of_bytes 0x99 1 rfl rfl rfl
theorem sbc_A_D : Statement (.sbc_A_D) := of_bytes 0x9A 1 rfl rfl rfl
theorem sbc_A_E : Statement (.sbc_A_E) := of_bytes 0x9B 1 rfl rfl rfl
theorem sbc_A_H : Statement (.sbc_A_H) := of_bytes 0x9C 1 rfl rfl rfl
theorem sbc_A_L : Statement (.sbc_A_L) := of_bytes 0x9D 1 rfl rfl rfl
theorem sbc_A_atHL : Statement (.sbc_A_atHL) := of_bytes 0x9E 1 rfl rfl rfl
theorem sbc_A_A : Statement (.sbc_A_A) := of_bytes 0x9F 1 rfl rfl rfl
theorem and_B : Statement (.and_B) := of_bytes 0xA0 1 rfl rfl rfl
theorem and_C : Statement (.and_C) := of_bytes 0xA1 1 rfl rfl rfl
theorem and_D : Statement (.and_D) := of_bytes 0xA2 1 rfl rfl rfl
theorem and_E : Statement (.and_E) := of_bytes 0xA3 1 rfl rfl rfl
theorem and_H : Statement (.and_H) := of_bytes 0xA4 1 rfl rfl rfl
theorem and_L : Statement (.and_L) := of_bytes 0xA5 1 rfl rfl rfl
theorem and_atHL : Statement (.and_atHL) := of_bytes 0xA6 1 rfl rfl rfl
theorem and_A : Statement (.and_A) := of_bytes 0xA7 1 rfl rfl rfl
theorem xor_B : Statement (.xor_B) := of_bytes 0xA8 1 rfl rfl rfl
theorem xor_C : Statement (.xor_C) := of_bytes 0xA9 1 rfl rfl rfl
theorem xor_D : Statement (.xor_D) := of_bytes 0xAA 1 rfl rfl rfl
theorem xor_E : Statement (.xor_E) := of_bytes 0xAB 1 rfl rfl rfl
theorem xor_H : Statement (.xor_H) := of_bytes 0xAC 1 rfl rfl rfl
theorem xor_L : Statement (.xor_L) := of_bytes 0xAD 1 rfl rfl rfl
theorem xor_atHL : Statement (.xor_atHL) := of_bytes 0xAE 1 rfl rfl rfl
theorem xor_A : Statement (.xor_A) := of_bytes 0xAF 1 rfl rfl rfl
theorem or_B : Statement (.or_B) := of_bytes 0xB0 1 rfl rfl rfl
theorem or_C : Statement (.or_C) := of_bytes 0xB1 1 rfl rfl rfl
theorem or_D : Statement (.or_D) := of_bytes 0xB2 1 rfl rfl rfl
theorem or_E : Statement (.or_E) := of_bytes 0xB3 1 rfl rfl rfl
theorem or_H : Statement (.or_H) := of_bytes 0xB4 1 rfl rfl rfl
theorem or_L : Statement (.or_L) := of_bytes 0xB5 1 rfl rfl rfl
theorem or_atHL : Statement (.or_atHL) := of_bytes 0xB6 1 rfl rfl rfl
theorem or_A : Statement (.or_A) := of_bytes 0xB7 1 rfl rfl rfl
theorem cp_B : Statement (.cp_B) := of_bytes 0xB8 1 rfl rfl rfl
theorem cp_C : Statement (.cp_C) := of_bytes 0xB9 1 rfl rfl rfl
theorem cp_D : Statement (.cp_D) := of_bytes 0xBA 1 rfl rfl rfl
theorem cp_E : Statement (.cp_E) := of_bytes 0xBB 1 rfl rfl rfl
theorem cp_H : Statement (.cp_H) := of_bytes 0xBC 1 rfl rfl rfl
theorem cp_L : Statement (.cp_L) := of_bytes 0xBD 1 rfl rfl rfl
theorem cp_atHL : Statement (.cp_atHL) := of_bytes 0xBE 1 rfl rfl rfl
theorem cp_A : Statement (.cp_A) := of_bytes 0xBF 1 rfl rfl rfl
theorem ret_NZ : Statement (.ret_NZ) := of_bytes 0xC0 1 rfl rfl rfl
theorem pop_BC : Statement (.pop_BC) := of_bytes 0xC1 1 rfl rfl rfl
theorem jp_NZ_a16 (a : Word) : Statement (.jp_NZ_a16 a) := of_bytes 0xC2 3 rfl rfl rfl
theorem jp_a16 (a : Word) : Statement (.jp_a16 a) := of_bytes 0xC3 3 rfl rfl rfl
theorem call_NZ_a16 (a : Word) : Statement (.call_NZ_a16 a) := of_bytes 0xC4 3 rfl rfl rfl
theorem push_BC : Statement (.push_BC) := of_bytes 0xC5 1 rfl rfl rfl
theorem add_A_d8 (n : Byte) : Statement (.add_A_d8 n) := of_bytes 0xC6 2 rfl rfl rfl
theorem rst_00 : Statement (.rst_00) := of_bytes 0xC7 1 rfl rfl rfl
theorem ret_Z : Statement (.ret_Z) := of_bytes 0xC8 1 rfl rfl rfl
theorem ret : Statement (.ret) := of_bytes 0xC9 1 rfl rfl rfl
theorem jp_Z_a16 (a : Word) : Statement (.jp_Z_a16 a) := of_bytes 0xCA 3 rfl rfl rfl
theorem prefix_CB : Statement (.prefix_CB) := of_bytes 0xCB 1 rfl rfl rfl
theorem call_Z_a16 (a : Word) : Statement (.call_Z_a16 a) := of_bytes 0xCC 3 rfl rfl rfl
theorem call_a16 (a : Word) : Statement (.call_a16 a) := of_bytes 0xCD 3 rfl rfl rfl
theorem adc_A_d8 (n : Byte) : Statement (.adc_A_d8 n) := of_bytes 0xCE 2 rfl rfl rfl
theorem rst_08 : Statement (.rst_08) := of_bytes 0xCF 1 rfl rfl rfl
theorem ret_NC : Statement (.ret_NC) := of_bytes 0xD0 1 rfl rfl rfl
theorem pop_DE : Statement (.pop_DE) := of_bytes 0xD1 1 rfl rfl rfl
theorem jp_NC_a16 (a : Word) : Statement (.jp_NC_a16 a) := of_bytes 0xD2 3 rfl rfl rfl
theorem unsupported_D3 : Statement (.unsupported_D3) := of_bytes 0xD3 1 rfl rfl rfl
theorem call_NC_a16 (a : Word) : Statement (.call_NC_a16 a) := of_bytes 0xD4 3 rfl rfl rfl
theorem push_DE : Statement (.push_DE) := of_bytes 0xD5 1 rfl rfl rfl
theorem sub_d8 (n : Byte) : Statement (.sub_d8 n) := of_bytes 0xD6 2 rfl rfl rfl
theorem rst_10 : Statement (.rst_10) := of_bytes 0xD7 1 rfl rfl rfl
theorem ret_C : Statement (.ret_C) := of_bytes 0xD8 1 rfl rfl rfl
theorem reti : Statement (.reti) := of_bytes 0xD9 1 rfl rfl rfl
theorem jp_C_a16 (a : Word) : Statement (.jp_C_a16 a) := of_bytes 0xDA 3 rfl rfl rfl
theorem unsupported_DB : Statement (.unsupported_DB) := of_bytes 0xDB 1 rfl rfl rfl
theorem call_C_a16 (a : Word) : Statement (.call_C_a16 a) := of_bytes 0xDC 3 rfl rfl rfl
theorem unsupported_DD : Statement (.unsupported_DD) := of_bytes 0xDD 1 rfl rfl rfl
theorem sbc_A_d8 (n : Byte) : Statement (.sbc_A_d8 n) := of_bytes 0xDE 2 rfl rfl rfl
theorem rst_18 : Statement (.rst_18) := of_bytes 0xDF 1 rfl rfl rfl
theorem ldh_atA8_A (n : Byte) : Statement (.ldh_atA8_A n) := of_bytes 0xE0 2 rfl rfl rfl
theorem pop_HL : Statement (.pop_HL) := of_bytes 0xE1 1 rfl rfl rfl
theorem ld_atC_A : Statement (.ld_atC_A) := of_bytes 0xE2 1 rfl rfl rfl
theorem unsupported_E3 : Statement (.unsupported_E3) := of_bytes 0xE3 1 rfl rfl rfl
theorem unsupported_E4 : Statement (.unsupported_E4) := of_bytes 0xE4 1 rfl rfl rfl
theorem push_HL : Statement (.push_HL) := of_bytes 0xE5 1 rfl rfl rfl
theorem and_d8 (n : Byte) : Statement (.and_d8 n) := of_bytes 0xE6 2 rfl rfl rfl
theorem rst_20 : Statement (.rst_20) := of_bytes 0xE7 1 rfl rfl rfl
theorem add_SP_e8 (e : Byte) : Statement (.add_SP_e8 e) := of_bytes 0xE8 2 rfl rfl rfl
theorem jp_HL : Statement (.jp_HL) := of_bytes 0xE9 1 rfl rfl rfl
theorem ld_atA16_A (a : Word) : Statement (.ld_atA16_A a) := of_bytes 0xEA 3 rfl rfl rfl
theorem unsupported_EB : Statement (.unsupported_EB) := of_bytes 0xEB 1 rfl rfl rfl
theorem unsupported_EC : Statement (.unsupported_EC) := of_bytes 0xEC 1 rfl rfl rfl
theorem unsupported_ED : Statement (.unsupported_ED) := of_bytes 0xED 1 rfl rfl rfl
theorem xor_d8 (n : Byte) : Statement (.xor_d8 n) := of_bytes 0xEE 2 rfl rfl rfl
theorem rst_28 : Statement (.rst_28) := of_bytes 0xEF 1 rfl rfl rfl
theorem ldh_A_atA8 (n : Byte) : Statement (.ldh_A_atA8 n) := of_bytes 0xF0 2 rfl rfl rfl
theorem pop_AF : Statement (.pop_AF) := of_bytes 0xF1 1 rfl rfl rfl
theorem ld_A_atC : Statement (.ld_A_atC) := of_bytes 0xF2 1 rfl rfl rfl
theorem di : Statement (.di) := of_bytes 0xF3 1 rfl rfl rfl
theorem unsupported_F4 : Statement (.unsupported_F4) := of_bytes 0xF4 1 rfl rfl rfl
theorem push_AF : Statement (.push_AF) := of_bytes 0xF5 1 rfl rfl rfl
theorem or_d8 (n : Byte) : Statement (.or_d8 n) := of_bytes 0xF6 2 rfl rfl rfl
theorem rst_30 : Statement (.rst_30) := of_bytes 0xF7 1 rfl rfl rfl
theorem ld_HL_SPe8 (e : Byte) : Statement (.ld_HL_SPe8 e) := of_bytes 0xF8 2 rfl rfl rfl
theorem ld_SP_HL : Statement (.ld_SP_HL) := of_bytes 0xF9 1 rfl rfl rfl
theorem ld_A_atA16 (a : Word) : Statement (.ld_A_atA16 a) := of_bytes 0xFA 3 rfl rfl rfl
theorem ei : Statement (.ei) := of_bytes 0xFB 1 rfl rfl rfl
theorem unsupported_FC : Statement (.unsupported_FC) := of_bytes 0xFC 1 rfl rfl rfl
theorem unsupported_FD : Statement (.unsupported_FD) := of_bytes 0xFD 1 rfl rfl rfl
theorem cp_d8 (n : Byte) : Statement (.cp_d8 n) := of_bytes 0xFE 2 rfl rfl rfl
theorem rst_38 : Statement (.rst_38) := of_bytes 0xFF 1 rfl rfl rfl

end Sys2Proof.Laws.OpcodeAndLength
end

