-- ==== Sys2Proof/Laws/Timer.lean ====
section
/-! SUPPORT. The laws of the display timer's loop. -/

namespace Sys2Proof.Laws

open Sys2Proof.Machine

theorem threshold_pos (m : Mode) : 0 < threshold m := by cases m <;> decide

@[simp] theorem transition_acc (d : Display) : (transition d).acc = d.acc := by
  unfold transition
  split <;> first | rfl | (split <;> rfl)

/-- One pass of the loop, with the fuel out of the way (60_exceptions.md R540). -/
theorem timerLoop_step {fuel : Nat} {d : Display} (h : threshold d.mode ≤ d.acc) (hf : d.acc ≤ fuel) :
    timerLoop fuel d =
      timerLoop (fuel - 1) (transition { d with acc := d.acc - threshold d.mode }) := by
  have := threshold_pos d.mode
  cases fuel with
  | zero => omega
  | succ fuel => rw [timerLoop, if_neg (by omega)]; rfl

theorem timerLoop_exit {fuel : Nat} {d : Display} (h : d.acc < threshold d.mode) : timerLoop fuel d = d := by
  cases fuel with
  | zero => rfl
  | succ fuel => rw [timerLoop, if_pos h]

/-- The fuel does not matter once it covers the accumulator. -/
theorem timerLoop_fuel {fuel : Nat} {d : Display} (h : d.acc ≤ fuel) : timerLoop fuel d = timerLoop d.acc d := by
  induction fuel using Nat.strongRecOn generalizing d with
  | ind fuel ih =>
    by_cases ht : d.acc < threshold d.mode
    · rw [timerLoop_exit ht, timerLoop_exit ht]
    · have hpos := threshold_pos d.mode
      have hle : threshold d.mode ≤ d.acc := by omega
      rw [timerLoop_step hle h, timerLoop_step hle (Nat.le_refl _)]
      have h1 : (transition { d with acc := d.acc - threshold d.mode }).acc ≤ fuel - 1 := by
        rw [transition_acc]
        change d.acc - threshold d.mode ≤ _
        omega
      have h2 : (transition { d with acc := d.acc - threshold d.mode }).acc ≤ d.acc - 1 := by
        rw [transition_acc]
        change d.acc - threshold d.mode ≤ _
        omega
      rw [ih (fuel - 1) (by omega) h1]
      by_cases hf : d.acc - 1 = fuel - 1
      · rw [hf, ih (fuel - 1) (by omega) h1]
      · rw [ih (d.acc - 1) (by omega) h2]

/-- An induction over the passes of the loop: what holds where the loop exits, and before a pass if after it, holds of
the whole loop. -/
theorem timerLoop_induction {P : Display → Display → Prop} (exit : ∀ d, d.acc < threshold d.mode → P d d)
    (pass : ∀ d d', threshold d.mode ≤ d.acc → P (transition { d with acc := d.acc - threshold d.mode }) d' → P d d')
    (d : Display) : P d (timerLoop d.acc d) := by
  generalize hn : d.acc = n
  induction n using Nat.strongRecOn generalizing d with
  | ind n ih =>
    by_cases ht : d.acc < threshold d.mode
    · rw [timerLoop_exit ht]
      exact exit d ht
    · have hpos := threshold_pos d.mode
      have hle : threshold d.mode ≤ d.acc := by omega
      rw [timerLoop_step hle (by omega)]
      have hacc : (transition { d with acc := d.acc - threshold d.mode }).acc = d.acc - threshold d.mode := by simp
      refine pass d _ hle ?_
      rw [timerLoop_fuel (by omega)]
      exact ih _ (by omega) _ rfl

/-- After the loop the accumulator is below the threshold (R541). -/
theorem timerLoop_acc (d : Display) : (timerLoop d.acc d).acc < threshold (timerLoop d.acc d).mode :=
  timerLoop_induction (P := fun _ d' => d'.acc < threshold d'.mode) (fun _ h => h) (fun _ _ _ h => h) d

theorem transition_lineFitsMode {d : Display} (h : lineFitsMode d.mode d.line) (n : Nat) :
    lineFitsMode (transition { d with acc := n }).mode (transition { d with acc := n }).line := by
  obtain ⟨m, line, acc, e⟩ := d
  cases m
  · exact h
  · exact h
  · change line ≤ 142 at h
    by_cases hl : line + 1 = 143 <;> simp [transition, lineFitsMode, hl]
    omega
  · change 143 ≤ line ∧ line ≤ 152 at h
    by_cases hl : line + 1 = 153 <;> simp [transition, lineFitsMode, hl]
    omega

/-- The loop keeps the line and the mode in agreement (R43, R546). -/
theorem timerLoop_lineFitsMode {d : Display} (h : lineFitsMode d.mode d.line) :
    lineFitsMode (timerLoop d.acc d).mode (timerLoop d.acc d).line :=
  timerLoop_induction (P := fun d d' => lineFitsMode d.mode d.line → lineFitsMode d'.mode d'.line) (fun _ _ h => h)
    (fun _ _ _ ih h => ih (transition_lineFitsMode h _)) d h

/-- The timer phase changes the timer's fields and IF, and nothing else. -/
theorem timerPhase_frame (s : State) :
    timerPhase s =
      { s with
        mode := (timerPhase s).mode, line := (timerPhase s).line, acc := (timerPhase s).acc, ifl := (timerPhase s).ifl
        timerSeen := s.ticks } := rfl

end Sys2Proof.Laws
end

