-- ==== Sys2Proof/Tests/Slice0.lean ====
section
/-! SUPPORT. Tests with expected results from the spec: the opcode map of 30_encoding.md R137, the vectors of
95_test_vectors.md and the examples of the rules; the ill-formed inputs that are refused; and, for every statement with
hypotheses, a witness that meets them. -/

namespace Sys2Proof.Tests

open Sys2Proof Sys2Proof.Machine

/-- What `p` says of the next state; none after a fault. -/
def got {α : Type} (o : Out) (p : State → α) : Option α :=
  match o with
  | .next s => some (p s)
  | .fault _ => none
  | .refused _ => none

/-- The reason of the fatal outcome and what `p` says of the state at the fault. -/
def fatalWith {α : Type} (o : Out) (p : State → α) : Option (FatalReason × α) :=
  match o with
  | .fault (.fatal r s) => some (r, p s)
  | .fault (.noStep _) => none
  | .next _ => none
  | .refused _ => none

/-- The reset state after the fetch of an opcode at 0x0100. -/
def fetched : State := { State.reset with pc := 0x0101 }

/-- The reset state with PC at 0x0200, for vectors at that address, after the fetch of the opcode. -/
def fetched200 : State := { State.reset with pc := 0x0201 }

/-! ### Decoding (30_encoding.md R137): all 256 bytes, each followed by 0x34 0x12 -/

theorem test_decode_row_0 :
    [0x00#8, 0x01, 0x02, 0x03, 0x04, 0x05, 0x06, 0x07, 0x08, 0x09, 0x0A, 0x0B, 0x0C, 0x0D, 0x0E, 0x0F].map
        (fun op => (decode [op, 0x34, 0x12]).toOption) =
      [some (.nop, [0x34, 0x12]), some (.ld_BC_d16 0x1234, []), some (.ld_atBC_A, [0x34, 0x12]),
        some (.inc_BC, [0x34, 0x12]), some (.inc_B, [0x34, 0x12]), some (.dec_B, [0x34, 0x12]),
        some (.ld_B_d8 0x34, [0x12]), some (.rlca, [0x34, 0x12]), some (.ld_atA16_SP 0x1234, []),
        some (.add_HL_BC, [0x34, 0x12]), some (.ld_A_atBC, [0x34, 0x12]), some (.dec_BC, [0x34, 0x12]),
        some (.inc_C, [0x34, 0x12]), some (.dec_C, [0x34, 0x12]), some (.ld_C_d8 0x34, [0x12]),
        some (.rrca, [0x34, 0x12])] := by decide

theorem test_decode_row_1 :
    [0x10#8, 0x11, 0x12, 0x13, 0x14, 0x15, 0x16, 0x17, 0x18, 0x19, 0x1A, 0x1B, 0x1C, 0x1D, 0x1E, 0x1F].map
        (fun op => (decode [op, 0x34, 0x12]).toOption) =
      [some (.stop 0x34, [0x12]), some (.ld_DE_d16 0x1234, []), some (.ld_atDE_A, [0x34, 0x12]),
        some (.inc_DE, [0x34, 0x12]), some (.inc_D, [0x34, 0x12]), some (.dec_D, [0x34, 0x12]),
        some (.ld_D_d8 0x34, [0x12]), some (.rla, [0x34, 0x12]), some (.jr_e8 0x34, [0x12]),
        some (.add_HL_DE, [0x34, 0x12]), some (.ld_A_atDE, [0x34, 0x12]), some (.dec_DE, [0x34, 0x12]),
        some (.inc_E, [0x34, 0x12]), some (.dec_E, [0x34, 0x12]), some (.ld_E_d8 0x34, [0x12]),
        some (.rra, [0x34, 0x12])] := by decide

theorem test_decode_row_2 :
    [0x20#8, 0x21, 0x22, 0x23, 0x24, 0x25, 0x26, 0x27, 0x28, 0x29, 0x2A, 0x2B, 0x2C, 0x2D, 0x2E, 0x2F].map
        (fun op => (decode [op, 0x34, 0x12]).toOption) =
      [some (.jr_NZ_e8 0x34, [0x12]), some (.ld_HL_d16 0x1234, []), some (.ld_atHLinc_A, [0x34, 0x12]),
        some (.inc_HL, [0x34, 0x12]), some (.inc_H, [0x34, 0x12]), some (.dec_H, [0x34, 0x12]),
        some (.ld_H_d8 0x34, [0x12]), some (.daa, [0x34, 0x12]), some (.jr_Z_e8 0x34, [0x12]),
        some (.add_HL_HL, [0x34, 0x12]), some (.ld_A_atHLinc, [0x34, 0x12]), some (.dec_HL, [0x34, 0x12]),
        some (.inc_L, [0x34, 0x12]), some (.dec_L, [0x34, 0x12]), some (.ld_L_d8 0x34, [0x12]),
        some (.cpl, [0x34, 0x12])] := by decide

theorem test_decode_row_3 :
    [0x30#8, 0x31, 0x32, 0x33, 0x34, 0x35, 0x36, 0x37, 0x38, 0x39, 0x3A, 0x3B, 0x3C, 0x3D, 0x3E, 0x3F].map
        (fun op => (decode [op, 0x34, 0x12]).toOption) =
      [some (.jr_NC_e8 0x34, [0x12]), some (.ld_SP_d16 0x1234, []), some (.ld_atHLdec_A, [0x34, 0x12]),
        some (.inc_SP, [0x34, 0x12]), some (.inc_atHL, [0x34, 0x12]), some (.dec_atHL, [0x34, 0x12]),
        some (.ld_atHL_d8 0x34, [0x12]), some (.scf, [0x34, 0x12]), some (.jr_C_e8 0x34, [0x12]),
        some (.add_HL_SP, [0x34, 0x12]), some (.ld_A_atHLdec, [0x34, 0x12]), some (.dec_SP, [0x34, 0x12]),
        some (.inc_A, [0x34, 0x12]), some (.dec_A, [0x34, 0x12]), some (.ld_A_d8 0x34, [0x12]),
        some (.ccf, [0x34, 0x12])] := by decide

theorem test_decode_row_4 :
    [0x40#8, 0x41, 0x42, 0x43, 0x44, 0x45, 0x46, 0x47, 0x48, 0x49, 0x4A, 0x4B, 0x4C, 0x4D, 0x4E, 0x4F].map
        (fun op => (decode [op, 0x34, 0x12]).toOption) =
      [some (.ld_B_B, [0x34, 0x12]), some (.ld_B_C, [0x34, 0x12]), some (.ld_B_D, [0x34, 0x12]),
        some (.ld_B_E, [0x34, 0x12]), some (.ld_B_H, [0x34, 0x12]), some (.ld_B_L, [0x34, 0x12]),
        some (.ld_B_atHL, [0x34, 0x12]), some (.ld_B_A, [0x34, 0x12]), some (.ld_C_B, [0x34, 0x12]),
        some (.ld_C_C, [0x34, 0x12]), some (.ld_C_D, [0x34, 0x12]), some (.ld_C_E, [0x34, 0x12]),
        some (.ld_C_H, [0x34, 0x12]), some (.ld_C_L, [0x34, 0x12]), some (.ld_C_atHL, [0x34, 0x12]),
        some (.ld_C_A, [0x34, 0x12])] := by decide

theorem test_decode_row_5 :
    [0x50#8, 0x51, 0x52, 0x53, 0x54, 0x55, 0x56, 0x57, 0x58, 0x59, 0x5A, 0x5B, 0x5C, 0x5D, 0x5E, 0x5F].map
        (fun op => (decode [op, 0x34, 0x12]).toOption) =
      [some (.ld_D_B, [0x34, 0x12]), some (.ld_D_C, [0x34, 0x12]), some (.ld_D_D, [0x34, 0x12]),
        some (.ld_D_E, [0x34, 0x12]), some (.ld_D_H, [0x34, 0x12]), some (.ld_D_L, [0x34, 0x12]),
        some (.ld_D_atHL, [0x34, 0x12]), some (.ld_D_A, [0x34, 0x12]), some (.ld_E_B, [0x34, 0x12]),
        some (.ld_E_C, [0x34, 0x12]), some (.ld_E_D, [0x34, 0x12]), some (.ld_E_E, [0x34, 0x12]),
        some (.ld_E_H, [0x34, 0x12]), some (.ld_E_L, [0x34, 0x12]), some (.ld_E_atHL, [0x34, 0x12]),
        some (.ld_E_A, [0x34, 0x12])] := by decide

theorem test_decode_row_6 :
    [0x60#8, 0x61, 0x62, 0x63, 0x64, 0x65, 0x66, 0x67, 0x68, 0x69, 0x6A, 0x6B, 0x6C, 0x6D, 0x6E, 0x6F].map
        (fun op => (decode [op, 0x34, 0x12]).toOption) =
      [some (.ld_H_B, [0x34, 0x12]), some (.ld_H_C, [0x34, 0x12]), some (.ld_H_D, [0x34, 0x12]),
        some (.ld_H_E, [0x34, 0x12]), some (.ld_H_H, [0x34, 0x12]), some (.ld_H_L, [0x34, 0x12]),
        some (.ld_H_atHL, [0x34, 0x12]), some (.ld_H_A, [0x34, 0x12]), some (.ld_L_B, [0x34, 0x12]),
        some (.ld_L_C, [0x34, 0x12]), some (.ld_L_D, [0x34, 0x12]), some (.ld_L_E, [0x34, 0x12]),
        some (.ld_L_H, [0x34, 0x12]), some (.ld_L_L, [0x34, 0x12]), some (.ld_L_atHL, [0x34, 0x12]),
        some (.ld_L_A, [0x34, 0x12])] := by decide

theorem test_decode_row_7 :
    [0x70#8, 0x71, 0x72, 0x73, 0x74, 0x75, 0x76, 0x77, 0x78, 0x79, 0x7A, 0x7B, 0x7C, 0x7D, 0x7E, 0x7F].map
        (fun op => (decode [op, 0x34, 0x12]).toOption) =
      [some (.ld_atHL_B, [0x34, 0x12]), some (.ld_atHL_C, [0x34, 0x12]), some (.ld_atHL_D, [0x34, 0x12]),
        some (.ld_atHL_E, [0x34, 0x12]), some (.ld_atHL_H, [0x34, 0x12]), some (.ld_atHL_L, [0x34, 0x12]),
        some (.halt, [0x34, 0x12]), some (.ld_atHL_A, [0x34, 0x12]), some (.ld_A_B, [0x34, 0x12]),
        some (.ld_A_C, [0x34, 0x12]), some (.ld_A_D, [0x34, 0x12]), some (.ld_A_E, [0x34, 0x12]),
        some (.ld_A_H, [0x34, 0x12]), some (.ld_A_L, [0x34, 0x12]), some (.ld_A_atHL, [0x34, 0x12]),
        some (.ld_A_A, [0x34, 0x12])] := by decide

theorem test_decode_row_8 :
    [0x80#8, 0x81, 0x82, 0x83, 0x84, 0x85, 0x86, 0x87, 0x88, 0x89, 0x8A, 0x8B, 0x8C, 0x8D, 0x8E, 0x8F].map
        (fun op => (decode [op, 0x34, 0x12]).toOption) =
      [some (.add_A_B, [0x34, 0x12]), some (.add_A_C, [0x34, 0x12]), some (.add_A_D, [0x34, 0x12]),
        some (.add_A_E, [0x34, 0x12]), some (.add_A_H, [0x34, 0x12]), some (.add_A_L, [0x34, 0x12]),
        some (.add_A_atHL, [0x34, 0x12]), some (.add_A_A, [0x34, 0x12]), some (.adc_A_B, [0x34, 0x12]),
        some (.adc_A_C, [0x34, 0x12]), some (.adc_A_D, [0x34, 0x12]), some (.adc_A_E, [0x34, 0x12]),
        some (.adc_A_H, [0x34, 0x12]), some (.adc_A_L, [0x34, 0x12]), some (.adc_A_atHL, [0x34, 0x12]),
        some (.adc_A_A, [0x34, 0x12])] := by decide

theorem test_decode_row_9 :
    [0x90#8, 0x91, 0x92, 0x93, 0x94, 0x95, 0x96, 0x97, 0x98, 0x99, 0x9A, 0x9B, 0x9C, 0x9D, 0x9E, 0x9F].map
        (fun op => (decode [op, 0x34, 0x12]).toOption) =
      [some (.sub_B, [0x34, 0x12]), some (.sub_C, [0x34, 0x12]), some (.sub_D, [0x34, 0x12]),
        some (.sub_E, [0x34, 0x12]), some (.sub_H, [0x34, 0x12]), some (.sub_L, [0x34, 0x12]),
        some (.sub_atHL, [0x34, 0x12]), some (.sub_A, [0x34, 0x12]), some (.sbc_A_B, [0x34, 0x12]),
        some (.sbc_A_C, [0x34, 0x12]), some (.sbc_A_D, [0x34, 0x12]), some (.sbc_A_E, [0x34, 0x12]),
        some (.sbc_A_H, [0x34, 0x12]), some (.sbc_A_L, [0x34, 0x12]), some (.sbc_A_atHL, [0x34, 0x12]),
        some (.sbc_A_A, [0x34, 0x12])] := by decide

theorem test_decode_row_A :
    [0xA0#8, 0xA1, 0xA2, 0xA3, 0xA4, 0xA5, 0xA6, 0xA7, 0xA8, 0xA9, 0xAA, 0xAB, 0xAC, 0xAD, 0xAE, 0xAF].map
        (fun op => (decode [op, 0x34, 0x12]).toOption) =
      [some (.and_B, [0x34, 0x12]), some (.and_C, [0x34, 0x12]), some (.and_D, [0x34, 0x12]),
        some (.and_E, [0x34, 0x12]), some (.and_H, [0x34, 0x12]), some (.and_L, [0x34, 0x12]),
        some (.and_atHL, [0x34, 0x12]), some (.and_A, [0x34, 0x12]), some (.xor_B, [0x34, 0x12]),
        some (.xor_C, [0x34, 0x12]), some (.xor_D, [0x34, 0x12]), some (.xor_E, [0x34, 0x12]),
        some (.xor_H, [0x34, 0x12]), some (.xor_L, [0x34, 0x12]), some (.xor_atHL, [0x34, 0x12]),
        some (.xor_A, [0x34, 0x12])] := by decide

theorem test_decode_row_B :
    [0xB0#8, 0xB1, 0xB2, 0xB3, 0xB4, 0xB5, 0xB6, 0xB7, 0xB8, 0xB9, 0xBA, 0xBB, 0xBC, 0xBD, 0xBE, 0xBF].map
        (fun op => (decode [op, 0x34, 0x12]).toOption) =
      [some (.or_B, [0x34, 0x12]), some (.or_C, [0x34, 0x12]), some (.or_D, [0x34, 0x12]),
        some (.or_E, [0x34, 0x12]), some (.or_H, [0x34, 0x12]), some (.or_L, [0x34, 0x12]),
        some (.or_atHL, [0x34, 0x12]), some (.or_A, [0x34, 0x12]), some (.cp_B, [0x34, 0x12]),
        some (.cp_C, [0x34, 0x12]), some (.cp_D, [0x34, 0x12]), some (.cp_E, [0x34, 0x12]),
        some (.cp_H, [0x34, 0x12]), some (.cp_L, [0x34, 0x12]), some (.cp_atHL, [0x34, 0x12]),
        some (.cp_A, [0x34, 0x12])] := by decide

theorem test_decode_row_C :
    [0xC0#8, 0xC1, 0xC2, 0xC3, 0xC4, 0xC5, 0xC6, 0xC7, 0xC8, 0xC9, 0xCA, 0xCB, 0xCC, 0xCD, 0xCE, 0xCF].map
        (fun op => (decode [op, 0x34, 0x12]).toOption) =
      [some (.ret_NZ, [0x34, 0x12]), some (.pop_BC, [0x34, 0x12]), some (.jp_NZ_a16 0x1234, []),
        some (.jp_a16 0x1234, []), some (.call_NZ_a16 0x1234, []), some (.push_BC, [0x34, 0x12]),
        some (.add_A_d8 0x34, [0x12]), some (.rst_00, [0x34, 0x12]), some (.ret_Z, [0x34, 0x12]),
        some (.ret, [0x34, 0x12]), some (.jp_Z_a16 0x1234, []), some (.prefix_CB, [0x34, 0x12]),
        some (.call_Z_a16 0x1234, []), some (.call_a16 0x1234, []), some (.adc_A_d8 0x34, [0x12]),
        some (.rst_08, [0x34, 0x12])] := by decide

theorem test_decode_row_D :
    [0xD0#8, 0xD1, 0xD2, 0xD3, 0xD4, 0xD5, 0xD6, 0xD7, 0xD8, 0xD9, 0xDA, 0xDB, 0xDC, 0xDD, 0xDE, 0xDF].map
        (fun op => (decode [op, 0x34, 0x12]).toOption) =
      [some (.ret_NC, [0x34, 0x12]), some (.pop_DE, [0x34, 0x12]), some (.jp_NC_a16 0x1234, []),
        some (.unsupported_D3, [0x34, 0x12]), some (.call_NC_a16 0x1234, []), some (.push_DE, [0x34, 0x12]),
        some (.sub_d8 0x34, [0x12]), some (.rst_10, [0x34, 0x12]), some (.ret_C, [0x34, 0x12]),
        some (.reti, [0x34, 0x12]), some (.jp_C_a16 0x1234, []), some (.unsupported_DB, [0x34, 0x12]),
        some (.call_C_a16 0x1234, []), some (.unsupported_DD, [0x34, 0x12]), some (.sbc_A_d8 0x34, [0x12]),
        some (.rst_18, [0x34, 0x12])] := by decide

theorem test_decode_row_E :
    [0xE0#8, 0xE1, 0xE2, 0xE3, 0xE4, 0xE5, 0xE6, 0xE7, 0xE8, 0xE9, 0xEA, 0xEB, 0xEC, 0xED, 0xEE, 0xEF].map
        (fun op => (decode [op, 0x34, 0x12]).toOption) =
      [some (.ldh_atA8_A 0x34, [0x12]), some (.pop_HL, [0x34, 0x12]), some (.ld_atC_A, [0x34, 0x12]),
        some (.unsupported_E3, [0x34, 0x12]), some (.unsupported_E4, [0x34, 0x12]),
        some (.push_HL, [0x34, 0x12]), some (.and_d8 0x34, [0x12]), some (.rst_20, [0x34, 0x12]),
        some (.add_SP_e8 0x34, [0x12]), some (.jp_HL, [0x34, 0x12]), some (.ld_atA16_A 0x1234, []),
        some (.unsupported_EB, [0x34, 0x12]), some (.unsupported_EC, [0x34, 0x12]),
        some (.unsupported_ED, [0x34, 0x12]), some (.xor_d8 0x34, [0x12]), some (.rst_28, [0x34, 0x12])] := by decide

theorem test_decode_row_F :
    [0xF0#8, 0xF1, 0xF2, 0xF3, 0xF4, 0xF5, 0xF6, 0xF7, 0xF8, 0xF9, 0xFA, 0xFB, 0xFC, 0xFD, 0xFE, 0xFF].map
        (fun op => (decode [op, 0x34, 0x12]).toOption) =
      [some (.ldh_A_atA8 0x34, [0x12]), some (.pop_AF, [0x34, 0x12]), some (.ld_A_atC, [0x34, 0x12]),
        some (.di, [0x34, 0x12]), some (.unsupported_F4, [0x34, 0x12]), some (.push_AF, [0x34, 0x12]),
        some (.or_d8 0x34, [0x12]), some (.rst_30, [0x34, 0x12]), some (.ld_HL_SPe8 0x34, [0x12]),
        some (.ld_SP_HL, [0x34, 0x12]), some (.ld_A_atA16 0x1234, []), some (.ei, [0x34, 0x12]),
        some (.unsupported_FC, [0x34, 0x12]), some (.unsupported_FD, [0x34, 0x12]), some (.cp_d8 0x34, [0x12]),
        some (.rst_38, [0x34, 0x12])] := by decide

/-! ### Well-formedness: what is refused -/

/-- A list that ends before the immediates: LD BC,d16; LD B,d8; STOP (R127, R131). -/
theorem test_truncated_is_refused :
    (decode [0x01, 0x34]).toOption = none ∧ (decode [0x06]).toOption = none ∧ (decode [0x10]).toOption =
      none := by decide

theorem test_truncated_is_named :
    decode [0xC3, 0x50] = .error (.truncated 0xC3) := rfl

theorem test_empty_is_refused :
    decode [] = .error .noBytes := rfl

/-- 92_eei_decisions.md D34. -/
theorem test_short_image_is_refused :
    imageWellFormed (List.replicate 3 0x00) = false ∧ State.construct (List.replicate 3 0x00) = none := by decide

/-- V30: lengths by first byte. -/
theorem test_lengths :
    [Instr.nop, .ld_B_d8 0, .ld_atA16_SP 0, .jr_e8 0, .jr_NZ_e8 0, .ld_SP_d16 0, .halt, .jp_a16 0, .call_a16 0,
        .ldh_atA8_A 0, .add_SP_e8 0, .ld_atA16_A 0, .ld_HL_SPe8 0, .cp_d8 0, .stop 0, .prefix_CB].map Instr.length =
      [1, 2, 3, 2, 2, 3, 1, 3, 3, 2, 2, 3, 2, 2, 2, 1] := by decide

/-! ### The table's words, and fetching them -/

theorem test_table_word :
    decodeTableWord 24 0xC00008 = some (.ld_atA16_SP 0xC000) ∧ decodeTableWord 8 0x08 =
      some (.ld_atA16_SP 0x0000) := by decide

/-- V30: `LD BC,0x1234` at 0x0100, through its table word. -/
theorem test_with_fetch_word :
    fetch (State.reset.withFetchWord 24 0x123401) = .ld_BC_d16 0x1234 ∧
    got (step (State.reset.withFetchWord 24 0x123401)) (fun s => (s.b, s.c, s.pc)) =
      some (0x12, 0x34, 0x0103) := by decide

/-! ### The step (V30, S12, S13) -/

/-- S13. -/
theorem test_first_step :
    got (step State.reset) (fun s => (s.pc, s.ticks, s.acc, s.mode, s.line)) =
      some (0x0101, 2, 2, .hblank, 0) := by decide

/-- V30: the opcode at 0xFFFF is IE = 0x00, a NOP. -/
theorem test_pc_wraps :
    got (step { State.reset with pc := 0xFFFF }) (fun s => (s.pc, s.ticks)) = some (0x0000, 2) := by decide

/-- V30: `INC A` in work RAM. -/
theorem test_code_runs_from_ram :
    got (step { State.reset with pc := 0xC000, mem := [(0xC000, 0x3C)] }) (fun s => (s.a, s.pc)) =
      some (0x02, 0xC001) := by decide

/-- S12. -/
theorem test_vblank_before_timer :
    got (step { State.reset with ie := 0x05, ifl := 0x05, pc := 0x0200 })
        (fun s => (s.pc, s.ifl, s.sp, s.readShort 0xFFFC, s.ime, s.ticks)) =
      some (0x0040, 0x04, 0xFFFC, 0x0201, false, 14) := by decide

/-! ### 8-bit loads (V40) -/

/-- R200. -/
theorem test_ld_A_B :
    got (exec .ld_A_B { fetched with b := 0x12 }) (fun s => (s.a, s.pc)) = some (0x12, 0x0101) := by decide

/-- R201. -/
theorem test_ld_A_d8 :
    got (exec (.ld_A_d8 0x42) fetched) (fun s => (s.a, s.pc)) = some (0x42, 0x0102) := by decide

/-- R202. -/
theorem test_ld_B_atHL :
    got (exec .ld_B_atHL { fetched with h := 0xC0, l := 0x00, mem := [(0xC000, 0x99)] }) (fun s => s.b) =
      some 0x99 := by decide

/-- R202. -/
theorem test_ld_H_atHL :
    got (exec .ld_H_atHL { fetched with h := 0xC0, l := 0x00, mem := [(0xC000, 0x99)] }) (fun s => s.hl) =
      some 0x9900 := by decide

/-- R203. -/
theorem test_ld_atHL_A :
    got (exec .ld_atHL_A { fetched with h := 0x80, l := 0x00, a := 0xFF }) (fun s => s.readByte 0x8000) =
      some 0xFF := by decide

/-- R203, R86. -/
theorem test_ld_atHL_A_rom :
    fatalWith (exec .ld_atHL_A { fetched with h := 0x40, l := 0x00 }) (fun s => s.ticks) =
      some (.romWrite 0x4000 0x01, 0) := by decide

/-- R204. -/
theorem test_ld_atHL_d8 :
    got (exec (.ld_atHL_d8 0x5A) { fetched with h := 0xC0, l := 0x10 }) (fun s => (s.readByte 0xC010, s.pc)) =
      some (0x5A, 0x0102) := by decide

/-- R205. -/
theorem test_ld_A_atBC :
    got (exec .ld_A_atBC { fetched with b := 0xFF, c := 0x80, mem := [(0xFF80, 0x07)] }) (fun s => s.a) =
      some 0x07 := by decide

/-- R206. -/
theorem test_ld_A_atDE :
    got (exec .ld_A_atDE { fetched with d := 0x01, e := 0x50, mem := [(0x0150, 0xAB)] }) (fun s => s.a) =
      some 0xAB := by decide

/-- R207. -/
theorem test_ld_atBC_A :
    got (exec .ld_atBC_A { fetched with b := 0xC1, c := 0x00, a := 0x3C }) (fun s => s.readByte 0xC100) =
      some 0x3C := by decide

/-- R208, the mirror. -/
theorem test_ld_atDE_A :
    got (exec .ld_atDE_A { fetched with d := 0xE0, e := 0x00, a := 0x11 })
      (fun s => (s.readByte 0xC000, s.readByte 0xE000)) = some (0x11, 0x11) := by decide

/-- R209. -/
theorem test_ld_atHLinc_A :
    got (exec .ld_atHLinc_A { fetched with h := 0xFF, l := 0xFF, a := 0x1F }) (fun s => (s.ie, s.hl)) =
      some (0x1F, 0x0000) := by decide

/-- R210. -/
theorem test_ld_A_atHLinc :
    got (exec .ld_A_atHLinc { fetched with h := 0x02, l := 0x00, mem := [(0x0200, 0x77)] }) (fun s => (s.a, s.hl)) =
      some (0x77, 0x0201) := by decide

/-- R211. -/
theorem test_ld_atHLdec_A :
    got (exec .ld_atHLdec_A { fetched with h := 0x80, l := 0x00, a := 0x55 }) (fun s => (s.readByte 0x8000, s.hl)) =
      some (0x55, 0x7FFF) := by decide

/-- R212. -/
theorem test_ld_A_atHLdec :
    got (exec .ld_A_atHLdec { fetched with h := 0x00, l := 0x00, mem := [(0x0000, 0x20)] }) (fun s => (s.a, s.hl)) =
      some (0x20, 0xFFFF) := by decide

/-- R213. -/
theorem test_ld_atA16_A :
    got (exec (.ld_atA16_A 0xFFFF) fetched) (fun s => (s.ie, s.pc)) = some (0x01, 0x0103) := by decide

/-- R214. -/
theorem test_ld_A_atA16 :
    got (exec (.ld_A_atA16 0xFF44) { fetched with line := 5 }) (fun s => s.a) = some 0x05 := by decide

/-- R220. -/
theorem test_ldh_atA8_A :
    got (exec (.ldh_atA8_A 0x0F) { fetched with a := 0x04 }) (fun s => s.ifl) = some 0x04 := by decide

/-- R221. -/
theorem test_ldh_A_atA8 :
    got (exec (.ldh_A_atA8 0x44) { fetched with line := 0x8F }) (fun s => (s.a, s.pc)) =
      some (0x8F, 0x0102) := by decide

/-- R221, R77. -/
theorem test_ldh_stat_is_storage :
    got (exec (.ldh_A_atA8 0x41) { fetched with mode := .vblank }) (fun s => s.a) = some 0x00 := by decide

/-- R222. -/
theorem test_ld_atC_A :
    got (exec .ld_atC_A { fetched with c := 0x80, a := 0x55 }) (fun s => s.readByte 0xFF80) = some 0x55 := by decide

/-- R223. -/
theorem test_ld_A_atC :
    got (exec .ld_A_atC { fetched with c := 0xFF, ie := 0x1F }) (fun s => s.a) = some 0x1F := by decide

/-! ### 16-bit loads and the stack (V41) -/

/-- R240. -/
theorem test_ld_SP_d16 :
    got (exec (.ld_SP_d16 0xDFFF) fetched) (fun s => (s.sp, s.pc)) = some (0xDFFF, 0x0103) := by decide

/-- R241. -/
theorem test_ld_atA16_SP :
    got (exec (.ld_atA16_SP 0xC000) { fetched with sp := 0xFFF8 }) (fun s => (s.readByte 0xC000, s.readByte 0xC001)) =
      some (0xF8, 0xFF) := by decide

/-- R241. -/
theorem test_ld_atA16_SP_top :
    fatalWith (exec (.ld_atA16_SP 0xFFFF) { fetched with sp := 0x1234 }) (fun s => s.ie) =
      some (.romWrite 0x0000 0x12, 0x34) := by decide

/-- R242. -/
theorem test_ld_SP_HL :
    got (exec .ld_SP_HL { fetched with h := 0xC0, l := 0xFF }) (fun s => s.sp) = some 0xC0FF := by decide

/-- R243. -/
theorem test_ld_HL_SPe8 :
    got (exec (.ld_HL_SPe8 0x08) { fetched with sp := 0xFFF8 }) (fun s => (s.hl, s.f, s.sp)) =
      some (0x0000, 0x30, 0xFFF8) := by decide

/-- R244. -/
theorem test_ld_HL_SPe8_negative :
    got (exec (.ld_HL_SPe8 0xFF) { fetched with sp := 0x0000 }) (fun s => (s.hl, s.f)) =
      some (0xFFFF, 0x00) := by decide

/-- R250. -/
theorem test_push_BC :
    got (exec .push_BC { fetched with b := 0x12, c := 0x34 })
      (fun s => (s.sp, s.readByte 0xFFFC, s.readByte 0xFFFD)) = some (0xFFFC, 0x34, 0x12) := by decide

/-- R250, R93. -/
theorem test_push_DE_rom :
    fatalWith (exec .push_DE { fetched with sp := 0x8001 }) (fun s => s.sp) =
      some (.romWrite 0x7FFF 0xD8, 0x7FFF) := by decide

/-- R250. -/
theorem test_push_HL_wraps :
    got (exec .push_HL { fetched with sp := 0x0000, h := 0xAB, l := 0xCD })
      (fun s => (s.sp, s.readByte 0xFFFE, s.ie)) = some (0xFFFE, 0xCD, 0xAB) := by decide

/-- R250. -/
theorem test_push_AF :
    got (exec .push_AF fetched) (fun s => (s.readByte 0xFFFC, s.readByte 0xFFFD)) = some (0xB0, 0x01) := by decide

/-- R251. -/
theorem test_pop_AF :
    got (exec .pop_AF { fetched with sp := 0xFFFC, mem := [(0xFFFC, 0xFF), (0xFFFD, 0x12)] })
      (fun s => (s.a, s.f, s.sp)) = some (0x12, 0xF0, 0xFFFE) := by decide

/-- R251, D29. -/
theorem test_pop_AF_low_nibble :
    got (exec .pop_AF { fetched with sp := 0xFFFC, mem := [(0xFFFC, 0x0F)] }) (fun s => (s.a, s.f)) =
      some (0x00, 0x00) := by decide

/-- R251. -/
theorem test_pop_BC :
    got (exec .pop_BC { fetched with sp := 0xFFFF, ie := 0x01, mem := [(0x0000, 0xC3)] })
      (fun s => (s.b, s.c, s.sp)) = some (0xC3, 0x01, 0x0001) := by decide

/-! ### 8-bit arithmetic (V42) -/

/-- R272. -/
theorem test_add_A_B :
    got (exec .add_A_B { fetched with a := 0x3A, f := 0x00, b := 0xC6 }) (fun s => (s.a, s.f)) =
      some (0x00, 0xB0) := by decide

/-- R272. -/
theorem test_add_A_C :
    got (exec .add_A_C { fetched with a := 0x80, f := 0xF0, c := 0x80 }) (fun s => (s.a, s.f)) =
      some (0x00, 0x90) := by decide

/-- R271. -/
theorem test_add_A_atHL :
    got (exec .add_A_atHL { fetched with a := 0x0F, h := 0xC0, l := 0x00, mem := [(0xC000, 0x01)] })
      (fun s => (s.a, s.f)) = some (0x10, 0x20) := by decide

/-- R271. -/
theorem test_add_A_d8 :
    got (exec (.add_A_d8 0x01) { fetched with a := 0x0F }) (fun s => (s.a, s.f, s.pc)) =
      some (0x10, 0x20, 0x0102) := by decide

/-- R274. -/
theorem test_adc_A_E :
    got (exec .adc_A_E { fetched with a := 0xE1, f := 0x10, e := 0x0F }) (fun s => (s.a, s.f)) =
      some (0xF1, 0x20) := by decide

/-- R274. -/
theorem test_adc_A_B :
    got (exec .adc_A_B { fetched with a := 0x7F, f := 0x10, b := 0x80 }) (fun s => (s.a, s.f)) =
      some (0x00, 0xB0) := by decide

/-- R275. -/
theorem test_sub_E :
    got (exec .sub_E { fetched with a := 0x3E, f := 0x00, e := 0x3E }) (fun s => (s.a, s.f)) =
      some (0x00, 0xC0) := by decide

/-- R275. -/
theorem test_sub_B :
    got (exec .sub_B { fetched with a := 0x3E, f := 0x00, b := 0x40 }) (fun s => (s.a, s.f)) =
      some (0xFE, 0x50) := by decide

/-- R276. -/
theorem test_sbc_A_H :
    got (exec .sbc_A_H { fetched with a := 0x3B, f := 0x10, h := 0x2A }) (fun s => (s.a, s.f)) =
      some (0x10, 0x40) := by decide

/-- R276. -/
theorem test_sbc_A_B :
    got (exec .sbc_A_B { fetched with a := 0x00, f := 0x10, b := 0xFF }) (fun s => (s.a, s.f)) =
      some (0x00, 0xF0) := by decide

/-- R276. -/
theorem test_sbc_A_A :
    got (exec .sbc_A_A { fetched with a := 0x55, f := 0x10 }) (fun s => (s.a, s.f)) = some (0xFF, 0x70) := by decide

/-- R277. -/
theorem test_and_L :
    got (exec .and_L { fetched with a := 0x5A, f := 0xD0, l := 0x3F }) (fun s => (s.a, s.f)) =
      some (0x1A, 0x20) := by decide

/-- R278. -/
theorem test_xor_A :
    got (exec .xor_A { fetched with a := 0x5A, f := 0x70 }) (fun s => (s.a, s.f)) = some (0x00, 0x80) := by decide

/-- R278. -/
theorem test_xor_d8 :
    got (exec (.xor_d8 0x0F) { fetched with a := 0xFF }) (fun s => (s.a, s.f)) = some (0xF0, 0x00) := by decide

/-- R279. -/
theorem test_or_C :
    got (exec .or_C { fetched with a := 0x5A, f := 0xF0, c := 0x0F }) (fun s => (s.a, s.f)) =
      some (0x5F, 0x00) := by decide

/-- R280. -/
theorem test_cp_B :
    got (exec .cp_B { fetched with a := 0x3C, f := 0x90, b := 0x2F }) (fun s => (s.a, s.f)) =
      some (0x3C, 0x60) := by decide

/-- R280. -/
theorem test_cp_d8 :
    got (exec (.cp_d8 0x40) { fetched with a := 0x3C }) (fun s => (s.a, s.f)) = some (0x3C, 0x50) := by decide

/-- R281. -/
theorem test_inc_A :
    got (exec .inc_A { fetched with a := 0xFF, f := 0x00 }) (fun s => (s.a, s.f)) = some (0x00, 0xA0) := by decide

/-- R281. -/
theorem test_inc_D :
    got (exec .inc_D { fetched with d := 0x0F, f := 0x10 }) (fun s => (s.d, s.f)) = some (0x10, 0x30) := by decide

/-- R283. -/
theorem test_dec_B :
    got (exec .dec_B { fetched with b := 0x01, f := 0x00 }) (fun s => (s.b, s.f)) = some (0x00, 0xC0) := by decide

/-- R283. -/
theorem test_dec_L :
    got (exec .dec_L { fetched with l := 0x00, f := 0x10 }) (fun s => (s.l, s.f)) = some (0xFF, 0x70) := by decide

/-- R282. -/
theorem test_inc_atHL :
    got (exec .inc_atHL { fetched with f := 0x00, h := 0xC0, l := 0x00, mem := [(0xC000, 0x4F)] })
      (fun s => (s.readByte 0xC000, s.f)) = some (0x50, 0x20) := by decide

/-- R282. -/
theorem test_inc_atHL_ly :
    got (exec .inc_atHL { fetched with f := 0x00, h := 0xFF, l := 0x44, line := 7 }) (fun s => (s.line, s.f)) =
      some (7, 0x00) := by decide

/-- R284. -/
theorem test_dec_atHL :
    got (exec .dec_atHL { fetched with f := 0x00, h := 0xFF, l := 0x80 }) (fun s => (s.readByte 0xFF80, s.f)) =
      some (0xFF, 0x60) := by decide

/-- R284. -/
theorem test_dec_atHL_rom :
    fatalWith (exec .dec_atHL { fetched with h := 0x10, l := 0x00 }) (fun s => s.f) =
      some (.romWrite 0x1000 0xFF, 0xB0) := by decide

/-! ### 16-bit arithmetic (V43) -/

/-- R310. -/
theorem test_inc_HL :
    got (exec .inc_HL { fetched with h := 0x00, l := 0xFF }) (fun s => (s.hl, s.f)) = some (0x0100, 0xB0) := by decide

/-- R310. -/
theorem test_inc_BC :
    got (exec .inc_BC { fetched with b := 0xFF, c := 0xFF }) (fun s => (s.bc, s.f)) = some (0x0000, 0xB0) := by decide

/-- R311. -/
theorem test_dec_DE :
    got (exec .dec_DE { fetched with d := 0x00, e := 0x00 }) (fun s => (s.de, s.f)) = some (0xFFFF, 0xB0) := by decide

/-- R312. -/
theorem test_add_HL_BC :
    got (exec .add_HL_BC { fetched with h := 0x8A, l := 0x23, b := 0x06, c := 0x05, f := 0x80 })
      (fun s => (s.hl, s.f)) = some (0x9028, 0xA0) := by decide

/-- R312. -/
theorem test_add_HL_HL :
    got (exec .add_HL_HL { fetched with h := 0x80, l := 0x00, f := 0x00 }) (fun s => (s.hl, s.f)) =
      some (0x0000, 0x10) := by decide

/-- R313. -/
theorem test_add_SP_e8 :
    got (exec (.add_SP_e8 0xFF) fetched) (fun s => (s.sp, s.f)) = some (0xFFFD, 0x30) := by decide

/-- R313. -/
theorem test_add_SP_e8_minus_128 :
    got (exec (.add_SP_e8 0x80) { fetched with sp := 0x0100 }) (fun s => (s.sp, s.f)) = some (0x0080, 0x00) := by decide

/-! ### Rotates, decimal adjust, flags (V44) -/

/-- R330. -/
theorem test_rlca :
    got (exec .rlca { fetched with a := 0x85 }) (fun s => (s.a, s.f)) = some (0x0B, 0x10) := by decide

/-- R330. -/
theorem test_rlca_zero :
    got (exec .rlca { fetched with a := 0x00 }) (fun s => (s.a, s.f)) = some (0x00, 0x00) := by decide

/-- R331. -/
theorem test_rrca :
    got (exec .rrca { fetched with a := 0x3B }) (fun s => (s.a, s.f)) = some (0x9D, 0x10) := by decide

/-- R332. -/
theorem test_rla :
    got (exec .rla { fetched with a := 0x95, f := 0x10 }) (fun s => (s.a, s.f)) = some (0x2B, 0x10) := by decide

/-- R332. -/
theorem test_rla_zero :
    got (exec .rla { fetched with a := 0x80, f := 0x00 }) (fun s => (s.a, s.f)) = some (0x00, 0x10) := by decide

/-- R333. -/
theorem test_rra :
    got (exec .rra { fetched with a := 0x81, f := 0x00 }) (fun s => (s.a, s.f)) = some (0x40, 0x10) := by decide

/-- R334. -/
theorem test_daa :
    got (exec .daa { fetched with a := 0x9A, f := 0x00 }) (fun s => (s.a, s.f)) = some (0x00, 0x90) := by decide

/-- R334. -/
theorem test_daa_after_subtraction :
    got (exec .daa { fetched with a := 0x39, f := 0x60 }) (fun s => (s.a, s.f)) = some (0x33, 0x40) := by decide

/-- R335. -/
theorem test_cpl :
    got (exec .cpl { fetched with a := 0x35, f := 0x00 }) (fun s => (s.a, s.f)) = some (0xCA, 0x60) := by decide

/-- R336. -/
theorem test_scf :
    got (exec .scf { fetched with f := 0x60 }) (fun s => s.f) = some 0x10 := by decide

/-- R337. -/
theorem test_ccf :
    got (exec .ccf { fetched with f := 0xB0 }) (fun s => s.f) = some 0x80 := by decide

/-! ### Control transfer (V45) -/

/-- R361. -/
theorem test_jr :
    got (exec (.jr_e8 0xFE) { fetched with pc := 0x0151 }) (fun s => s.pc) = some 0x0150 := by decide

/-- R360, R361. -/
theorem test_jr_wraps :
    got (exec (.jr_e8 0x00) { fetched with pc := 0xFFFF }) (fun s => s.pc) = some 0x0000 := by decide

/-- R362. -/
theorem test_jr_NZ :
    got (exec (.jr_NZ_e8 0x04) { fetched200 with f := 0x00 }) (fun s => s.pc) = some 0x0206 := by decide

/-- R362. -/
theorem test_jr_NZ_not_taken :
    got (exec (.jr_NZ_e8 0x04) { fetched200 with f := 0x80 }) (fun s => s.pc) = some 0x0202 := by decide

/-- R363. -/
theorem test_jp :
    got (exec (.jp_a16 0x0150) fetched) (fun s => s.pc) = some 0x0150 := by decide

/-- R364. -/
theorem test_jp_C :
    got (exec (.jp_C_a16 0x4000) { fetched200 with f := 0x10 }) (fun s => s.pc) = some 0x4000 := by decide

/-- R364. -/
theorem test_jp_C_not_taken :
    got (exec (.jp_C_a16 0x4000) { fetched200 with f := 0xE0 }) (fun s => s.pc) = some 0x0203 := by decide

/-- R365. -/
theorem test_jp_HL :
    got (exec .jp_HL { fetched with h := 0xC0, l := 0x00 }) (fun s => s.pc) = some 0xC000 := by decide

/-- R366. -/
theorem test_call :
    got (exec (.call_a16 0x0300) fetched200) (fun s => (s.sp, s.readByte 0xFFFC, s.readByte 0xFFFD, s.pc)) =
      some (0xFFFC, 0x03, 0x02, 0x0300) := by decide

/-- R366. -/
theorem test_call_rom :
    fatalWith (exec (.call_a16 0x0300) { fetched200 with sp := 0x8000 }) (fun s => s.sp) =
      some (.romWrite 0x7FFE 0x03, 0x7FFE) := by decide

/-- R367. -/
theorem test_call_NZ_not_taken :
    got (exec (.call_NZ_a16 0x0300) { fetched200 with f := 0x80, sp := 0x0000 }) (fun s => (s.pc, s.sp)) =
      some (0x0203, 0x0000) := by decide

/-- R368. -/
theorem test_ret :
    got (exec .ret { fetched with sp := 0xFFFC, ime := false, mem := [(0xFFFC, 0x03), (0xFFFD, 0x02)] })
      (fun s => (s.pc, s.sp, s.ime)) = some (0x0203, 0xFFFE, false) := by decide

/-- R369. -/
theorem test_ret_NC :
    got (exec .ret_NC { fetched with f := 0x00, sp := 0xFFFC, mem := [(0xFFFC, 0x03), (0xFFFD, 0x02)] })
      (fun s => (s.pc, s.sp)) = some (0x0203, 0xFFFE) := by decide

/-- R369. -/
theorem test_ret_NC_not_taken :
    got (exec .ret_NC { fetched with f := 0x10, pc := 0x0401, sp := 0xFFFC }) (fun s => (s.pc, s.sp)) =
      some (0x0401, 0xFFFC) := by decide

/-- R370. -/
theorem test_reti :
    got (exec .reti { fetched with ime := false, sp := 0xFFFC, mem := [(0xFFFC, 0x23), (0xFFFD, 0x01)] })
      (fun s => (s.ime, s.pc, s.sp)) = some (true, 0x0123, 0xFFFE) := by decide

/-- R372. -/
theorem test_rst_28 :
    got (exec .rst_28 fetched200) (fun s => (s.sp, s.readByte 0xFFFC, s.readByte 0xFFFD, s.pc)) =
      some (0xFFFC, 0x01, 0x02, 0x0028) := by decide

/-! ### System instructions (V46) -/

/-- R401. -/
theorem test_halt :
    got (exec .halt { fetched with ime := false, pc := 0x0151 }) (fun s => (s.pc, s.stopped)) =
      some (0x0151, false) := by decide

/-- R402 and R526, as V46 with the display-status source. -/
theorem test_stop_step_dispatches :
    got (step { State.reset with pc := 0x0200, ie := 0x02, ifl := 0x02, mem := [(0x0200, 0x10)] })
        (fun s => (s.pc, s.readByte 0xFFFC, s.readByte 0xFFFD, s.ifl, s.ime, s.stopped)) =
      some (0x0048, 0x02, 0x02, 0x00, false, true) := by decide

/-- R403, as V46 with the display-status source. -/
theorem test_di_step :
    got (step { State.reset with ie := 0x02, ifl := 0x02, mem := [(0x0100, 0xF3)] }) (fun s => (s.ime, s.pc, s.ifl)) =
      some (false, 0x0101, 0x02) := by decide

/-- R405, as V46 with the display-status source. -/
theorem test_ei_step :
    got (step { State.reset with ime := false, pc := 0x0300, ie := 0x02, ifl := 0x02, mem := [(0x0300, 0xFB)] })
        (fun s => (s.pc, s.readByte 0xFFFC, s.readByte 0xFFFD, s.ime)) = some (0x0048, 0x01, 0x03, false) := by decide

/-- R404, the first of the two steps of its example. -/
theorem test_unsupported_step :
    got (step { State.reset with mem := [(0x0100, 0xCB), (0x0101, 0x37)] })
        (fun s => (s.log, s.unsupportedSeen, s.pc, s.ticks)) =
      some ([{ pc := 0x0100, opcode := 0xCB }], true, 0x0101, 0) := by decide

/-! ### Memory (V20, S8) -/

/-- R74. -/
theorem test_mirror :
    got (writeByte 0xE123 0x5A State.reset) (fun s => s.readByte 0xC123) = some 0x5A ∧
    got (writeByte 0xDFFF 0x77 State.reset) (fun s => s.readByte 0xFDFF) = some 0x00 := by decide

/-- R75. -/
theorem test_oam_top :
    got (writeByte 0xFEA0 0x12 State.reset) (fun s => s.readByte 0xFEA0) = some 0x12 := by decide

/-- R89. -/
theorem test_ly_is_discarded :
    got (writeByte 0xFF44 0x00 { State.reset with line := 9 }) (fun s => s.readByte 0xFF44) = some 0x09 := by decide

/-- R88. -/
theorem test_if_keeps_8_bits :
    got (writeByte 0xFF0F 0xFF State.reset) (fun s => s.readByte 0xFF0F) = some 0xFF := by decide

/-- R90. -/
theorem test_read_short_wraps :
    ({ State.reset with ie := 0x11, mem := [(0x0000, 0x22)] } : State).readShort 0xFFFF = 0x2211 := by decide

/-- R91. -/
theorem test_write_short_across_regions :
    got (writeShort 0x9FFF 0x1234 State.reset) (fun s => (s.arrayByte .vram 0x1FFF, s.arrayByte .eram 0)) =
      some (0x34, 0x12) := by decide

/-- R91. -/
theorem test_write_short_rom :
    fatalWith (writeShort 0x7FFF 0x1234 State.reset) (fun s => s.mem) = some (.romWrite 0x7FFF 0x34, []) := by decide

/-- S8. -/
theorem test_write_short_if :
    got (writeShort 0xFF0F 0x1234 State.reset) (fun s => (s.ifl, s.arrayByte .io 0x10, s.readShort 0xFF0F)) =
      some (0x34, 0x12, 0x1234) := by decide

/-- R87. -/
theorem test_dma :
    got (writeByte 0xFF46 0xC0 { State.reset with mem := [(0xC000, 0x11), (0xC09F, 0x22), (0xC0A0, 0x33)] })
        (fun s => (s.readByte 0xFE00, s.readByte 0xFE9F, s.readByte 0xFEA0, s.readByte 0xFF46)) =
      some (0x11, 0x22, 0x00, 0xC0) := by decide +kernel

/-! ### Interrupts and the display timer (V60) -/

/-- R521. -/
theorem test_serial_before_joypad :
    got (interruptStep { State.reset with ie := 0x1F, ifl := 0x18 }) (fun s => (s.pc, s.ifl, s.ime, s.ticks)) =
      some (0x0058, 0x10, false, 12) := by decide

/-- R521. -/
theorem test_enable_masks :
    got (interruptStep { State.reset with ie := 0x02, ifl := 0x03 }) (fun s => (s.pc, s.ifl)) =
      some (0x0048, 0x01) := by decide

/-- R520, D9. -/
theorem test_high_bits_enable_nothing :
    got (interruptStep { State.reset with ie := 0xE0, ifl := 0xE0 }) (fun s => (s.pc, s.ifl)) =
      some (0x0100, 0xE0) := by decide

/-- R522. -/
theorem test_dispatch_into_rom :
    fatalWith (interruptStep { State.reset with ie := 0x01, ifl := 0x01, sp := 0x8001, pc := 0x0234 })
        (fun s => (s.ifl, s.sp, s.ime, s.pc)) =
      some (.romWrite 0x7FFF 0x34, (0x00, 0x7FFF, true, 0x0234)) := by decide

/-- R522, D19. -/
theorem test_dispatch_pushes_over_if :
    got (interruptStep { State.reset with ie := 0x01, ifl := 0x01, sp := 0xFF11, pc := 0x0234 })
        (fun s => (s.ifl, s.sp, s.ime, s.pc)) = some (0x34, 0xFF0F, false, 0x0040) := by decide

/-- R540. -/
theorem test_timer_203 :
    (fun s : State => (s.mode, s.line, s.acc)) (timerStep 203 State.reset) = (.hblank, 0, 203) := by decide

/-- S10. -/
theorem test_timer_204 :
    (fun s : State => (s.mode, s.line, s.acc)) (timerStep 204 State.reset) = (.oamScan, 1, 0) := by decide

/-- R540. -/
theorem test_timer_1000 :
    (fun s : State => (s.mode, s.line, s.acc)) (timerStep 1000 State.reset) = (.hblank, 2, 88) := by decide

/-- R544. -/
theorem test_timer_requests_vblank :
    (fun s : State => (s.mode, s.line, s.ifl)) (timerStep 204 { State.reset with line := 142, ie := 0x01 }) =
      (.vblank, 143, 0x01) := by decide

/-- R544, 90_conflicts.md C2. -/
theorem test_timer_without_enable :
    (fun s : State => (s.mode, s.line, s.ifl)) (timerStep 204 { State.reset with line := 142 }) =
      (.vblank, 143, 0x00) := by decide

/-- R545. -/
theorem test_timer_wraps :
    (fun s : State => (s.mode, s.line, s.acc, s.ifl)) (timerStep 456 { State.reset with mode := .vblank, line := 152, ie := 0x01 }) =
      (.oamScan, 0, 0, 0x00) := by decide

/-! ### Witnesses: for every statement with hypotheses, concrete values that meet them -/

/-- Distinct bytes on both sides of every boundary of the map, and distinct registers behind the intercepted addresses. -/
def marked : State :=
  { State.reset with
    ie := 0xE0, ifl := 0xE1, lcdc := 0xE2, scy := 0xE3, scx := 0xE4, dma := 0xE5, line := 0x66
    mem := [(0x0000, 0x01), (0x7FFF, 0x02), (0x8000, 0x03), (0x9FFF, 0x04), (0xA000, 0x05), (0xBFFF, 0x06), (0xC000, 0x07),
      (0xDDFF, 0x08), (0xDE00, 0x09), (0xDFFF, 0x0A), (0xFE00, 0x0B), (0xFE9F, 0x0C), (0xFEA0, 0x0D), (0xFEFF, 0x0E),
      (0xFF00, 0x0F), (0xFF41, 0x10), (0xFF7F, 0x11), (0xFF80, 0x12), (0xFFFE, 0x13)] }

theorem witness_EncodeOfDecode :
    decode [0x01, 0x34, 0x12, 0x76] = .ok (.ld_BC_d16 0x1234, [0x76]) := rfl

/-- Lengths 1, 2 and 3, whole and truncated, and both sides of the unsupported list. -/
theorem witness_EveryOpcodeDecodes :
    (decode [0x00, 0x34, 0x12]).toOption = some (.nop, [0x34, 0x12]) ∧ (decode [0x06, 0x34]).toOption =
      some (.ld_B_d8 0x34, []) ∧
    (decode [0x06]).toOption = none ∧ (decode [0x01, 0x34]).toOption = none ∧
    (∃ o, (Instr.prefix_CB, o) ∈ Instr.unsupportedList) ∧ Instr.nop ∉ Instr.unsupportedList.map Prod.fst := by
  refine ⟨by decide, by decide, by decide, by decide, ⟨0xCB, by decide⟩, by decide⟩

theorem witness_StepRunsDecodedInstruction :
    State.reset.fatal = none ∧ State.reset.stopped = false ∧
    decode [State.reset.readByte 0x0100, State.reset.readByte 0x0101, State.reset.readByte 0x0102] =
      .ok (.nop, [0x00, 0x00]) := ⟨rfl, rfl, rfl⟩

/-- `LD BC,0x1234` over the end of the address space: its last byte is at 0x0000. -/
theorem witness_BytesAtPcAreFetched :
    let s : State := { State.reset with pc := 0xFFFE, ie := 0x34, mem := [(0x0000, 0x12), (0xFFFE, 0x01)] }
    (∀ (k : Nat) (v : Byte), (encode (.ld_BC_d16 0x1234))[k]? = some v → s.readByte (s.pc + BitVec.ofNat 16 k) = v) ∧
      fetch s = .ld_BC_d16 0x1234 := by
  refine ⟨fun k v h => ?_, by decide⟩
  match k with
  | 0 | 1 | 2 => simp [encode] at h; subst h; decide
  | _ + 3 => simp [encode] at h

/-- R124: with no fatal condition and the latch set. -/
theorem witness_StoppedStepChangesNothing :
    got (step { State.reset with stopped := true, ticks := 7 }) id =
      some { State.reset with stopped := true, ticks := 7 } := by decide

theorem witness_AbortedSessionHasNoStep :
    step { State.reset with fatal := some (.romWrite 0x2000 0x77) } = .fault (.noStep (.romWrite 0x2000 0x77)) := rfl

/-- P4's last step, and a step that goes on. -/
theorem witness_StepIsFatalOnlyOnRomWrite :
    got (step State.reset) (·.fatal) = some none ∧
    fatalWith (step { State.reset with h := 0x20, l := 0x00, a := 0x77, mem := [(0x0100, 0x77)] })
      (fun s => (s.fatal, s.pc, s.ticks)) =
      some (.romWrite 0x2000 0x77, (some (.romWrite 0x2000 0x77), 0x0101, 0)) := by decide

theorem witness_OnlyStoresAreFatal :
    got (exec .ld_atHL_A { fetched with h := 0x80 }) (·.pc) = some 0x0101 ∧
    (fatalWith (exec .ld_atHL_A { fetched with h := 0x7F, l := 0xFF }) (·.pc)).isSome = true := by decide

/-- Without and with a dispatch. -/
theorem witness_TicksOfInstructionAndStep :
    got (exec .nop fetched) (·.ticks) = some 2 ∧ State.reset.stopped = false ∧
    got (step State.reset) (·.ticks) = some 2 ∧ got (step { State.reset with ie := 0x02, ifl := 0x02 })
      (fun s => (s.ticks, s.timerSeen)) = some (14, 2) := by decide

theorem witness_CostTablePins :
    baseTicks 0x00 = 2 ∧ baseTicks 0xCB = 0 ∧ baseTicks 0xFD = 0 ∧ takenExtra 0x18 = 0 := by decide

theorem witness_ConstructionEstablishesReset :
    (List.replicate 32768 (0x3C : Byte)).length = 32768 ∧ (List.replicate 32767 (0x3C : Byte)).length ≠ 32768 := by
  rw [List.length_replicate, List.length_replicate]; decide

/-- The invariant of the reset state, which a step leaves for a next state. -/
theorem witness_EveryStepKeepsInvariant :
    State.reset.Inv ∧ step State.reset =
      .next { State.reset with pc := 0x0101, ticks := 2, timerSeen := 2, acc := 2 } :=
  ⟨⟨rfl, rfl, Nat.zero_le _, by decide, Nat.le_refl _, by decide⟩, rfl⟩

/-- A step that goes on and one that is fatal, at the last address of ROM. -/
theorem witness_RomNeverChanges :
    marked.mem.wf ∧ (0x7FFF : Word).toNat ≤ 0x7FFF ∧ (got (step marked) (fun s => s.readByte 0x7FFF)) = some 0x02 ∧
    (fatalWith (step { State.reset with h := 0x7F, l := 0xFF, a := 0x77, mem := [(0x0100, 0x77), (0x7FFF, 0x02)] })
      (fun s => s.readByte 0x7FFF)) = some (.romWrite 0x7FFF 0x77, 0x02) := by decide

theorem witness_PairViews :
    State.reset.f &&& 0x0F#8 = 0#8 ∧ (State.reset.setAF 0x12FF).af = 0x12F0 := by decide

/-- Both ends of every range of R71, and the intercepted addresses. -/
theorem witness_ReadMap :
    [0x0000#16, 0x7FFF, 0x8000, 0x9FFF, 0xA000, 0xBFFF, 0xC000, 0xDFFF, 0xE000, 0xFDFF, 0xFE00, 0xFEFF, 0xFF00, 0xFF41, 0xFF7F,
        0xFF80, 0xFFFE].map marked.readByte =
      [0x01, 0x02, 0x03, 0x04, 0x05, 0x06, 0x07, 0x0A, 0x07, 0x08, 0x0B, 0x0E, 0x0F, 0x10, 0x11, 0x12, 0x13] ∧
    [0xFF0F#16, 0xFF40, 0xFF42, 0xFF43, 0xFF44, 0xFF46, 0xFFFF].map marked.readByte =
      [0xE1, 0xE2, 0xE3, 0xE4, 0x66, 0xE5, 0xE0] := by decide

/-- Both ends of every range of R71: which of the marked addresses then reads the byte. -/
theorem witness_WriteMap :
    [0x8000#16, 0x9FFF, 0xA000, 0xBFFF, 0xC000, 0xDFFF, 0xE000, 0xFDFF, 0xFE00, 0xFEFF, 0xFF00, 0xFF7F, 0xFF80, 0xFFFE].map
        (fun a => got (writeByte a 0xAA marked) (fun s => [0x8000#16, 0x9FFF, 0xA000, 0xBFFF, 0xC000, 0xDDFF, 0xDFFF, 0xFE00,
          0xFEFF, 0xFF00, 0xFF7F, 0xFF80, 0xFFFE].filter (fun x => s.readByte x == 0xAA))) =
      [some [0x8000], some [0x9FFF], some [0xA000], some [0xBFFF], some [0xC000], some [0xDFFF], some [0xC000],
        some [0xDDFF], some [0xFE00], some [0xFEFF], some [0xFF00], some [0xFF7F], some [0xFF80], some [0xFFFE]] ∧
    [0x0000#16, 0x7FFF].map (fun a => (fatalWith (writeByte a 0xAA marked) (·.mem == marked.mem))) =
      [some (.romWrite 0x0000 0xAA, true), some (.romWrite 0x7FFF 0xAA, true)] := by decide +kernel

theorem witness_ReadAfterByteWrite :
    marked.mem.wf ∧ 0x7FFF < (0x8000 : Word).toNat ∧ 0x7FFF < (0xFFFF : Word).toNat ∧ Alias 0xE000 0xC000 ∧
      Alias 0xDDFF 0xFDFF ∧
    ¬ Alias 0xFE00 0xDE00 := by
  refine ⟨by decide, by decide, by decide, ?_, ?_, ?_⟩ <;> simp [Alias]

/-- Pages 0xFE and 0xFF, the second with intercepted sources (R87). -/
theorem witness_DmaCopies :
    marked.mem.wf ∧ got (writeByte 0xFF46 0xFE marked) (fun s => (s.mem == marked.mem, s.dma)) = some (true, 0xFE) ∧
    got (writeByte 0xFF46 0xFF marked)
      (fun s => (s.readByte 0xFE00, s.readByte 0xFE0F, s.readByte 0xFE46, s.readByte 0xFEA0)) =
      some (0x0F, 0xE1, 0xFF, 0x0D) := by decide +kernel

/-- The ends of the writable addresses; the last is S8's third vector. -/
theorem witness_WordWriteRoundTrip :
    marked.mem.wf ∧ (0x7FFF : Word).toNat ≤ 0x7FFF ∧ ShortWritable 0x8000 ∧ ShortWritable 0xFFFE ∧
    fatalWith (writeShort 0xFFFF 0x1234 marked) (·.ie) = some (.romWrite 0x0000 0x12, 0x34) ∧
    got (writeShort 0xFFFE 0xABCD marked) (fun s => (s.readShort 0xFFFE, s.ie)) = some (0xABCD, 0xAB) := by
  refine ⟨by decide, by decide, ?_, ?_, by decide, by decide⟩ <;> simp [ShortWritable]

/-- S9, and the first fatal SP. -/
theorem witness_PushThenPop :
    marked.mem.wf ∧ ShortWritable ((0x8002 : Word) - 2) ∧
    (fatalWith (push16 0x1234 { State.reset with sp := 0x8001 }) (·.sp)) = some (.romWrite 0x7FFF 0x34, 0x7FFF) ∧
    got (push16 0x1234 State.reset) (fun s => (s.sp, s.stackTop, s.dropTop.sp)) = some (0xFFFC, 0x1234, 0xFFFE) := by
  refine ⟨by decide, ?_, by decide, by decide⟩; simp [ShortWritable]

/-- Both sides of the end of ROM. -/
theorem witness_StoresToMemory :
    fetched.mem.wf ∧ (0x7FFF : Word).toNat ≤ 0x7FFF ∧ 0x7FFF < (0x8000 : Word).toNat ∧
    (fatalWith (exec (.ld_atA16_A 0x7FFF) fetched) (·.pc)) = some (.romWrite 0x7FFF 0x01, 0x0103) ∧
    got (exec (.ld_atA16_A 0x8000) fetched) (fun s => (s.readByte 0x8000, s.pc)) = some (0x01, 0x0103) := by decide

/-- Both sides of the end of ROM. -/
theorem witness_StoresThatStepHL :
    fetched.mem.wf ∧ (fatalWith (exec .ld_atHLdec_A { fetched with h := 0x7F, l := 0xFF }) (·.hl)) =
      some (.romWrite 0x7FFF 0x01, 0x7FFF) ∧
    got (exec .ld_atHLinc_A { fetched with h := 0x80, l := 0x00 }) (fun s => (s.readByte 0x8000, s.hl)) =
      some (0x01, 0x8001) := by decide

/-- The ends of the three clauses. -/
theorem witness_StoreSp :
    fetched.mem.wf ∧ ShortWritable 0x8000 ∧ ShortWritable 0xFFFE ∧ ¬ ShortWritable 0xFFFF ∧
    (fatalWith (exec (.ld_atA16_SP 0x7FFF) fetched) (·.mem)) = some (.romWrite 0x7FFF 0xFE, []) ∧
    got (exec (.ld_atA16_SP 0x8000) fetched) (·.readShort 0x8000) = some 0xFFFE := by
  refine ⟨by decide, ?_, ?_, ?_, by decide, by decide⟩ <;> simp [ShortWritable]

/-- The ends of the three clauses. -/
theorem witness_PushPairs :
    fetched.mem.wf ∧ ((0x8001 : Word) - 2).toNat ≤ 0x7FFF ∧ ((0x0002 : Word) - 2).toNat ≤ 0x7FFF ∧
      ShortWritable ((0x8002 : Word) - 2) ∧
    ShortWritable ((0x0000 : Word) - 2) ∧ ¬ ShortWritable ((0x0001 : Word) - 2) ∧
    (fatalWith (exec .push_BC { fetched with sp := 0x0001 }) (fun s => (s.sp, s.ie))) =
      some (.romWrite 0x0000 0x00, (0xFFFF, 0x13)) := by
  refine ⟨by decide, by decide, by decide, ?_, ?_, ?_, by decide⟩ <;> simp [ShortWritable]

/-- Both sides of the end of ROM. -/
theorem witness_IncAndDecMemory :
    fetched.mem.wf ∧ (fatalWith (exec .inc_atHL { fetched with h := 0x7F, l := 0xFF }) (·.f)) =
      some (.romWrite 0x7FFF 0x01, 0xB0) ∧
    got (exec .dec_atHL { fetched with h := 0x80, l := 0x00 }) (fun s => (s.readByte 0x8000, s.f)) =
      some (0xFF, 0x70) := by decide

/-- The largest operands. -/
theorem witness_DecimalArithmetic :
    (99 < 100) ∧ ({ fetched with a := 0x99, b := 0x99 } : State).a = bcd 99 ∧ bcd 0 = 0x00 ∧ bcd 10 = 0x10 := by decide

/-- A condition that holds, one that fails, and the fatal high byte. -/
theorem witness_CallsAndRestarts :
    fetched.mem.wf ∧ condHolds .nz { fetched with f := 0x00 } = true ∧ condHolds .nz { fetched with f := 0x80 } =
      false ∧
    got (exec (.call_NZ_a16 0x0300) { fetched with f := 0x00 }) (fun s => (s.pc, s.readShort s.sp)) =
      some (0x0300, 0x0103) ∧
    (fatalWith (exec .rst_38 { fetched with sp := 0x0001 }) (fun s => (s.sp, s.ie))) =
      some (.romWrite 0x0000 0x01, (0xFFFF, 0x01)) := by decide

theorem witness_ReturnsFromCalls :
    condHolds .c { fetched with f := 0x10 } = true ∧ condHolds .c { fetched with f := 0x00 } = false := by decide

/-- V46. -/
theorem witness_UnsupportedOpcodes :
    (Instr.prefix_CB, 0xCB#8) ∈ Instr.unsupportedList ∧ (Instr.unsupported_FD, 0xFD#8) ∈ Instr.unsupportedList ∧
    got (exec .unsupported_D3 fetched200) (fun s => (s.log, s.pc, s.ticks)) =
      some ([{ pc := 0x0200, opcode := 0xD3 }], 0x0201, 0) := by decide

/-- One change of each kind. -/
theorem witness_OnlyNamedInstructionsChangeControlState :
    got (exec .di fetched) (·.ime) = some false ∧ got (exec (.stop 0x00) fetched) (·.stopped) = some true ∧
    got (exec .prefix_CB fetched) (·.unsupportedSeen) = some true ∧ got (exec .ccf fetched) (·.f) =
      some 0x80 := by decide

/-- The highest and the lowest source, no master enable, and the fatal high byte. -/
theorem witness_InterruptPhase :
    State.reset.mem.wf ∧ (0x01#8 &&& 0x1F#8 &&& 0x1F#8).getLsbD 0 = true ∧ (0x10#8 &&& 0x1F#8 &&& 0x1F#8).getLsbD 4 =
      true ∧
    (∀ j < 4, (0x10#8 &&& 0x1F#8 &&& 0x1F#8).getLsbD j = false) ∧
    got (interruptStep { State.reset with ie := 0x01, ifl := 0x1F }) (fun s => (s.pc, s.ifl)) = some (0x0040, 0x1E) ∧
    got (interruptStep { State.reset with ie := 0x10, ifl := 0x1F }) (fun s => (s.pc, s.ifl)) = some (0x0060, 0x0F) ∧
    got (interruptStep { State.reset with ime := false, ie := 0x10, ifl := 0x1F }) (·.pc) = some 0x0100 ∧
    (fatalWith (interruptStep { State.reset with ie := 0x01, ifl := 0x01, sp := 0x0001 }) (fun s => (s.sp, s.ie, s.ifl, s.ime))) =
      some (.romWrite 0x0000 0x01, (0xFFFF, 0x00, 0x00, true)) := by decide

theorem witness_EiAndDiActInTheirOwnStep :
    let s : State := { State.reset with ie := 0x01, ifl := 0x01, mem := [(0x0100, 0xFB), (0x0101, 0xF3)] }
    s.mem.wf ∧ s.fatal = none ∧ s.stopped = false ∧ s.readByte s.pc = 0xFB ∧ s.ie.getLsbD 0 = true ∧ s.ifl.getLsbD 0 =
      true ∧
      0x7FFF < (s.sp - 2).toNat ∧ 0x7FFF < (s.sp - 2 + 1).toNat ∧ ({ s with pc := 0x0101 } : State).readByte 0x0101 =
        0xF3 := by decide

/-- With ticks to feed and with none. -/
theorem witness_TimerPhaseFollowsRules :
    ({ State.reset with ticks := 204 } : State).timerSeen ≤ 204 ∧ State.reset.timerSeen ≤ State.reset.ticks ∧
    (timerPhase { State.reset with ticks := 204 }).mode = .oamScan := by decide

/-- The ends of the visible lines and of the frame. -/
theorem witness_FrameAdvancesByTicks :
    lineFitsMode .hblank 142 ∧ 203 < threshold .hblank ∧ lineFitsMode .vblank 152 ∧ 455 < threshold .vblank ∧
      lineFitsMode .vblank 143 ∧
    framePosition .vblank 152 455 = frameTicks - 1 := by
  simp [lineFitsMode, threshold, framePosition, frameTicks]

/-- The reset state, and a step from it. -/
theorem witness_EveryStepKeepsDisplayPosition :
    State.reset.Inv ∧ State.reset.displayFollowsTicks ∧
    step State.reset = .next { State.reset with pc := 0x0101, ticks := 2, timerSeen := 2, acc := 2 } :=
  ⟨witness_EveryStepKeepsInvariant.1, rfl, rfl⟩

end Sys2Proof.Tests
end

section
/-! The proofs of the statements on scope (00_scope.md): a step goes on or is fatal by a write to ROM, and the pinned
entries of the cost tables. -/

namespace Sys2Proof.Proofs

open Sys2Proof.Machine Sys2Proof.Laws

/-! ### A step goes on, or is fatal by a write to ROM -/

/-- The induction over a whole step: what every change of an instruction keeps, and the timer phase and the clearing of a
pending bit keep, holds of what a step leaves (30_encoding.md R121). -/
theorem step_all {P : State → Prop} (hP : Closed P) (timer : ∀ s, P s → P (timerPhase s))
    (clear : ∀ (s : State) (k : Source), P s → P { s with ifl := withBit s.ifl k.bit false }) {s : State}
    (hf : s.fatal = none) (hs : P s) : OutAll P (step s) := by
  cases hstop : s.stopped with
  | true =>
    rw [step_stopped hf hstop]
    exact hs
  | false =>
    rw [step_running hf hstop]
    exact outAll_andThen (exec_all hP (hP.pc s _ hs) _) fun m hm => closed_interruptStep hP (timer m hm) clear

/-- Only `raiseFatal` records a fatal reason: no change of an instruction that goes on does. -/
theorem closed_notFatal : Closed fun s => s.fatal = none where
  reg s r v h := by cases r <;> exact h
  flag _ _ _ h := h
  sp _ _ h := h
  pc _ _ h := h
  ime _ _ h := h
  ticks _ _ h := h
  stopped _ h := h
  unsupported _ _ h := h
  write _ _ _ _ h hw := (writeByte_kept hw).fatal.trans h

/-- The outcomes that `OutAll` admits: a next state with the property, or a recorded write to ROM. -/
theorem outAll_cases {P : State → Prop} {o : Out} (h : OutAll P o) :
    (∃ t, o = .next t ∧ P t) ∨
    (∃ (a : Word) (v : Byte) (u : State), o = .fault (.fatal (.romWrite a v) u) ∧ a.toNat ≤ 0x7FFF ∧
      u.fatal = some (.romWrite a v)) := by
  match o, h with
  | .next t, ht => exact .inl ⟨t, rfl, ht⟩
  | .fault (.fatal _ _), ⟨a, v, w, rfl, ha, _, rfl⟩ => exact .inr ⟨a, v, _, rfl, ha, rfl⟩

/-- Settles O9: no fatal condition is recorded by any change that goes on, so `step_all` leaves only the write to ROM. -/
theorem stepIsFatalOnlyOnRomWrite : Obligations.StepIsFatalOnlyOnRomWrite := by
  intro s hf
  exact outAll_cases (step_all closed_notFatal (fun _ h => h) (fun _ _ h => h) hf hf)

/-! ### The pinned costs -/

@[simp] theorem baseTicks_nop : baseTicks 0x00 = 2 := if_pos rfl

theorem baseTicks_unsupported {op : Byte} (h : op ∈ unsupportedOpcodes) : baseTicks op = 0 := by
  have nop : op ≠ 0x00 := ne_of_mem_of_not_mem h (by decide)
  rw [baseTicks, if_neg nop, if_pos h]

theorem takenExtra_unconditional {op : Byte} (h : op ∉ conditionalOpcodes) : takenExtra op = 0 := if_neg h

/-- Settles O12: the pins stand above the open entries of the tables (92_eei_decisions.md D3). The statement lists the
conditional bytes by instruction, `conditionalOpcodes` in another order. -/
theorem costTablePins : Obligations.CostTablePins := by
  refine ⟨baseTicks_nop, fun op h => baseTicks_unsupported h, fun op h => takenExtra_unconditional fun hc => h ?_,
    fun op taken => rfl⟩
  have sameBytes : conditionalOpcodes.Perm
      [0x20, 0x28, 0x30, 0x38, 0xC2, 0xCA, 0xD2, 0xDA, 0xC4, 0xCC, 0xD4, 0xDC, 0xC0, 0xC8, 0xD0, 0xD8] := by decide
  exact sameBytes.mem_iff.1 hc

end Sys2Proof.Proofs
end

section
/-! The proofs of the statements on the state (10_state.md): the invariant holds right after reset and every step keeps
it, the pairs are views of their registers, and only the named instructions change the control state or F. -/

namespace Sys2Proof.Proofs

open Sys2Proof.Machine Sys2Proof.Laws

/-! ### The invariant (10_state.md R52) -/

/-- Settles O16: the reset values, one by one. -/
theorem resetMeetsInvariant : Obligations.ResetMeetsInvariant :=
  ⟨rfl, rfl, Nat.zero_le _, by decide, Nat.le_refl _, reset_wf⟩

/-- Every change an instruction is made of keeps the invariant: flags are written through their own bits, ticks are only
added, and a store keeps the canonical form. -/
theorem closed_inv : Closed State.Inv where
  reg s r v h := by cases r <;> exact ⟨h.running, h.lowNibble, h.line, h.acc, h.seen, h.mem⟩
  flag s k v h := ⟨h.running, (setFlag_lowNibble s k v).trans h.lowNibble, h.line, h.acc, h.seen, h.mem⟩
  sp _ _ h := ⟨h.running, h.lowNibble, h.line, h.acc, h.seen, h.mem⟩
  pc _ _ h := ⟨h.running, h.lowNibble, h.line, h.acc, h.seen, h.mem⟩
  ime _ _ h := ⟨h.running, h.lowNibble, h.line, h.acc, h.seen, h.mem⟩
  ticks _ _ h := ⟨h.running, h.lowNibble, h.line, h.acc, Nat.le_add_right_of_le h.seen, h.mem⟩
  stopped _ h := ⟨h.running, h.lowNibble, h.line, h.acc, h.seen, h.mem⟩
  unsupported _ _ h := ⟨h.running, h.lowNibble, h.line, h.acc, h.seen, h.mem⟩
  write s t a v h hw := by
    have k := writeByte_kept hw
    refine ⟨k.fatal.trans h.running, ?_, ?_, ?_, ?_, writeByte_wf h.mem hw⟩
    · rw [k.f]; exact h.lowNibble
    · rw [k.mode, k.line]; exact h.line
    · rw [k.mode, k.acc]; exact h.acc
    · rw [k.timerSeen, k.ticks]; exact h.seen

/-- The timer phase keeps the invariant: its loop ends below the threshold with the line fitting the mode, and it has then
seen all the ticks (60_exceptions.md R540, R541). -/
theorem timerPhase_inv {s : State} (h : s.Inv) : (timerPhase s).Inv :=
  ⟨h.running, h.lowNibble, timerLoop_lineFitsMode (d := ⟨s.mode, s.line, _, false⟩) h.line,
    timerLoop_acc ⟨s.mode, s.line, _, false⟩, Nat.le_refl _, h.mem⟩

/-- Clearing a pending bit keeps the invariant, which does not speak of IF. -/
theorem clearPending_inv {s : State} (k : Source) (h : s.Inv) : State.Inv { s with ifl := withBit s.ifl k.bit false } :=
  ⟨h.running, h.lowNibble, h.line, h.acc, h.seen, h.mem⟩

/-- Settles O17: the three parts of a step keep the invariant, so `step_all` gives it for what a step leaves. -/
theorem everyStepKeepsInvariant : Obligations.EveryStepKeepsInvariant := by
  intro s t hs hstep
  have kept : OutAll State.Inv (step s) :=
    step_all closed_inv (fun _ => timerPhase_inv) (fun _ => clearPending_inv) hs.running hs
  exact outAll_next kept hstep

/-! ### The pair views (10_state.md R32, R33) -/

/-- A byte is its low nibble and its four high bits. -/
theorem byte_ext_highBits {x y : Byte} (low : x &&& 0x0F#8 = y &&& 0x0F#8)
    (high : ∀ k : Flag, x.getLsbD k.bit = y.getLsbD k.bit) : x = y := by
  have lowBit (j : Nat) (mask : (0x0F#8).getLsbD j = true) : x.getLsbD j = y.getLsbD j := by
    simpa [mask] using congrArg (·.getLsbD j) low
  apply BitVec.eq_of_getLsbD_eq
  intro j hj
  match j, hj with
  | 0, _ | 1, _ | 2, _ | 3, _ => exact lowBit _ rfl
  | 4, _ => exact high .c
  | 5, _ => exact high .h
  | 6, _ => exact high .n
  | 7, _ => exact high .z

/-- F after a write of AF, if its low nibble was zero: bits 7..4 of the value, and the low nibble still zero (R33, R34). -/
theorem setAF_f {s : State} (hs : s.f &&& 0x0F#8 = 0#8) (v : Word) : (s.setAF v).f = loByte v &&& 0xF0#8 := by
  apply byte_ext_highBits
  · have masks : 0xF0#8 &&& 0x0F#8 = 0#8 := rfl
    rw [BitVec.and_assoc, masks, BitVec.and_zero]
    exact (setFlags_lowNibble _ _).trans hs
  · intro k
    have written : (s.setAF v).flag k = v.getLsbD k.bit := by
      cases k
      · exact flag_setFlags_z _ _
      · exact flag_setFlags_n _ _
      · exact flag_setFlags_h _ _
      · exact flag_setFlags_c _ _
    refine written.trans ?_
    cases k <;> simp [Flag.bit, loByte]

/-- Settles O19: a pair is the concatenation of its two registers, and AF is written through the four flags. -/
theorem pairViews : Obligations.PairViews := by
  intro s v
  refine ⟨concat_toNat _ _, concat_toNat _ _, concat_toNat _ _, concat_toNat _ _, rfl, rfl, rfl, fun hs => ?_,
    bc_setBC s v, de_setDE s v, hl_setHL s v⟩
  calc s.setAF v = { s with a := hiByte v, f := (s.setAF v).f } := rfl
    _ = { s with a := hiByte v, f := loByte v &&& 0xF0#8 } := by rw [setAF_f hs]

/-! ### What an instruction can do to the control state and to F (10_state.md R35, R39, R42, R47, R48) -/

theorem storeFrame_trans {s t u : State} (h : StoreFrame s t) (k : StoreFrame t u) : StoreFrame s u :=
  k.trans (by rw [h])

/-- The control state, IME, the latches, the log and the timer's fields, is as it was. -/
theorem storeFrame_control {s t : State} (h : StoreFrame s t) :
    t.ime = s.ime ∧ t.stopped = s.stopped ∧ (t.unsupportedSeen = s.unsupportedSeen ∧ t.log = s.log) ∧
      (t.mode = s.mode ∧ t.line = s.line ∧ t.acc = s.acc ∧ t.timerSeen = s.timerSeen ∧ t.fatal = s.fatal) := by
  rw [h]
  exact ⟨rfl, rfl, ⟨rfl, rfl⟩, rfl, rfl, rfl, rfl, rfl⟩

/-- The control state and F are as they were. -/
structure Quiet (s t : State) : Prop where
  frame : StoreFrame s t
  f : t.f = s.f

theorem Quiet.trans {s t u : State} (h : Quiet s t) (k : Quiet t u) : Quiet s u :=
  ⟨storeFrame_trans h.frame k.frame, k.f.trans h.f⟩

theorem writeByte_quiet {a : Word} {v : Byte} {s t : State} (h : writeByte a v s = .next t) : Quiet s t :=
  ⟨(writeByte_kept h).storeFrame, (writeByte_kept h).f⟩

theorem writeShort_quiet {a v : Word} {s t : State} (h : writeShort a v s = .next t) : Quiet s t := by
  obtain ⟨m, low, high⟩ := andThen_eq_next h
  exact (writeByte_quiet low).trans (writeByte_quiet high)

theorem push16_quiet {v : Word} {s t : State} (h : push16 v s = .next t) : Quiet s t :=
  Quiet.trans (t := { s with sp := s.sp - 2 }) ⟨rfl, rfl⟩ (writeShort_quiet h)

/-- Passing immediate bytes moves PC only. -/
theorem quiet_of_consume {s t : State} {n : Nat} (h : Quiet (s.consume n) t) : Quiet s t :=
  Quiet.trans (t := s.consume n) ⟨rfl, rfl⟩ h

theorem setReg_quiet (s : State) (r : Reg) (v : Byte) : Quiet s (s.setReg r v) := by cases r <;> exact ⟨rfl, rfl⟩

theorem setPair_quiet (s : State) (p : Pair) (v : Word) : Quiet s (s.setPair p v) := by cases p <;> exact ⟨rfl, rfl⟩

theorem storeFrame_setFlag {s m : State} {k : Flag} {v : Bool} (h : StoreFrame s m) : StoreFrame s (m.setFlag k v) :=
  storeFrame_trans h rfl

theorem storeFrame_setFlags {s m : State} {v : FlagVals} (h : StoreFrame s m) : StoreFrame s (m.setFlags v) :=
  storeFrame_trans h rfl

theorem storeFrame_incFlags {s m : State} {v : Byte} (h : StoreFrame s m) : StoreFrame s (m.incFlags v) :=
  storeFrame_setFlag (storeFrame_setFlag (storeFrame_setFlag h))

theorem storeFrame_decFlags {s m : State} {v : Byte} (h : StoreFrame s m) : StoreFrame s (m.decFlags v) :=
  storeFrame_setFlag (storeFrame_setFlag (storeFrame_setFlag h))

/-- The end of an instruction only adds ticks. -/
theorem storeFrame_of_finish {s m t : State} {op : Byte} {taken : Bool} (h : finish op taken m = .next t)
    (hm : StoreFrame s m) : StoreFrame s t := by
  rw [finish_eq_next h]
  exact storeFrame_trans hm rfl

theorem quiet_of_finish {s m t : State} {op : Byte} {taken : Bool} (h : finish op taken m = .next t) (hm : Quiet s m) :
    Quiet s t :=
  ⟨storeFrame_of_finish h hm.frame, by rw [finish_eq_next h]; exact hm.f⟩

theorem store_quiet {op : Byte} {a : Word} {v : Byte} {s t : State} (h : store op a v s = .next t) : Quiet s t := by
  obtain ⟨m, hm, h⟩ := andThen_eq_next h
  exact quiet_of_finish h (writeByte_quiet hm)

theorem storeThenHL_quiet {op : Byte} {step : Word} {s t : State} (h : storeThenHL op step s = .next t) : Quiet s t := by
  obtain ⟨m, hm, h⟩ := andThen_eq_next h
  exact quiet_of_finish h ((writeByte_quiet hm).trans (setPair_quiet m .hl _))

theorem callTo_quiet {op : Byte} {taken : Bool} {target : Word} {s t : State} (h : callTo op taken target s = .next t) :
    Quiet s t := by
  obtain ⟨m, hm, h⟩ := andThen_eq_next h
  exact quiet_of_finish h (Quiet.trans (t := m) (push16_quiet hm) ⟨rfl, rfl⟩)

/-- The instructions whose rules list flags. -/
def ListsFlags (i : Instr) : Prop :=
  (∃ op src, i = .alu op src) ∨ (∃ r, i = .incReg r ∨ i = .decReg r) ∨ i = .inc_atHL ∨ i = .dec_atHL ∨
    (∃ p, i = .addHL p) ∨ (∃ e, i = .add_SP_e8 e ∨ i = .ld_HL_SPe8 e) ∨ i = .pop_AF ∨ i = .rlca ∨ i = .rrca ∨
    i = .rla ∨ i = .rra ∨ i = .daa ∨ i = .cpl ∨ i = .scf ∨ i = .ccf

/-- What an instruction that goes on from `s` to `t` can do to the control state and to F. -/
inductive ControlEffect (s t : State) : Instr → Prop where
  | quiet {i} (kept : Quiet s t) : ControlEffect s t i
  | flags {i} (named : ListsFlags i) (kept : StoreFrame s t) : ControlEffect s t i
  | ime {i} (v) (named : i = .ei ∨ i = .di ∨ i = .reti) (kept : Quiet { s with ime := v } t) : ControlEffect s t i
  | stop (n) (kept : Quiet { s with stopped := true } t) : ControlEffect s t (.stop n)
  | unsupported {i} (e) (named : ∃ op, (i, op) ∈ Instr.unsupportedList)
      (kept : Quiet { s with log := s.log ++ [e], unsupportedSeen := true } t) : ControlEffect s t i

/-- The effect of every instruction: the quiet families first, then those that write flags, then the named ones. -/
theorem exec_control (i : Instr) {s t : State} (h : exec i s = .next t) : ControlEffect s t i := by
  induction i using instr_by_family with
  | ldReg dst src => rw [exec_ldReg] at h; exact .quiet (quiet_of_finish h (setReg_quiet _ _ _))
  | ldImm r n => rw [exec_ldImm] at h; exact .quiet (quiet_of_consume (quiet_of_finish h (setReg_quiet _ _ _)))
  | ldFromHL r => rw [exec_ldFromHL] at h; exact .quiet (quiet_of_finish h (setReg_quiet _ _ _))
  | ldToHL r => rw [exec_ldToHL] at h; exact .quiet (store_quiet h)
  | ldAtBCA | ldAtDEA | ldAtCA => exact .quiet (store_quiet h)
  | ldAtHL | ldhAtA8A => exact .quiet (quiet_of_consume (n := 1) (store_quiet h))
  | ldAtA16A a => exact .quiet (quiet_of_consume (n := 2) (store_quiet h))
  | ldAtHLincA | ldAtHLdecA => exact .quiet (storeThenHL_quiet h)
  | ldAAtBC | ldAAtDE | ldAAtHLinc | ldAAtHLdec | ldAAtA16 | ldhAAtA8 | ldAAtC | ldSPHL | jr | jp | jpHL | ret | nop
  | halt => exact .quiet (quiet_of_finish h ⟨rfl, rfl⟩)
  | ldPair p v => rw [exec_ldPair] at h; exact .quiet (quiet_of_consume (quiet_of_finish h (setPair_quiet _ _ _)))
  | ldAtA16SP a =>
    obtain ⟨m, hm, h⟩ := andThen_eq_next h
    exact .quiet (quiet_of_finish h (quiet_of_consume (writeShort_quiet hm)))
  | push p =>
    rw [exec_push] at h
    obtain ⟨m, hm, h⟩ := andThen_eq_next h
    exact .quiet (quiet_of_finish h (push16_quiet hm))
  | incPair p => rw [exec_incPair] at h; exact .quiet (quiet_of_finish h (setPair_quiet _ _ _))
  | decPair p => rw [exec_decPair] at h; exact .quiet (quiet_of_finish h (setPair_quiet _ _ _))
  | jrIf cc e =>
    rw [exec_jrIf, jumpRelativeIf] at h
    split at h <;> exact .quiet (quiet_of_finish h ⟨rfl, rfl⟩)
  | jpIf cc a =>
    rw [exec_jpIf, jumpIf] at h
    split at h <;> exact .quiet (quiet_of_finish h ⟨rfl, rfl⟩)
  | call a => exact .quiet (quiet_of_consume (n := 2) (callTo_quiet h))
  | callIf cc a =>
    rw [exec_callIf, callIf] at h
    split at h
    · exact .quiet (quiet_of_consume (callTo_quiet h))
    · exact .quiet (quiet_of_finish h ⟨rfl, rfl⟩)
  | retIf cc =>
    rw [exec_retIf, returnIf] at h
    split at h <;> exact .quiet (quiet_of_finish h ⟨rfl, rfl⟩)
  | rst y => rw [exec_rst] at h; exact .quiet (callTo_quiet h)
  | pop p =>
    cases p
    case af =>
      exact .flags (by simp [ListsFlags, Instr.pop]) (storeFrame_of_finish h (storeFrame_setFlags rfl))
    all_goals exact .quiet (quiet_of_finish h ⟨rfl, rfl⟩)
  | alu k src =>
    rw [exec_alu] at h
    exact .flags (.inl ⟨k, src, rfl⟩) (storeFrame_of_finish h (storeFrame_setFlags rfl))
  | incReg r =>
    rw [exec_incReg] at h
    exact .flags (.inr (.inl ⟨r, .inl rfl⟩)) (storeFrame_of_finish h (storeFrame_incFlags (setReg_quiet s r _).frame))
  | decReg r =>
    rw [exec_decReg] at h
    exact .flags (.inr (.inl ⟨r, .inr rfl⟩)) (storeFrame_of_finish h (storeFrame_decFlags (setReg_quiet s r _).frame))
  | incAtHL =>
    obtain ⟨m, hm, h⟩ := andThen_eq_next h
    exact .flags (by simp [ListsFlags]) (storeFrame_of_finish h (storeFrame_incFlags (writeByte_quiet hm).frame))
  | decAtHL =>
    obtain ⟨m, hm, h⟩ := andThen_eq_next h
    exact .flags (by simp [ListsFlags]) (storeFrame_of_finish h (storeFrame_decFlags (writeByte_quiet hm).frame))
  | addHL p =>
    rw [exec_addHL] at h
    exact .flags (by simp [ListsFlags])
      (storeFrame_of_finish h (storeFrame_setFlag (storeFrame_setFlag (storeFrame_setFlag rfl))))
  | addSPe8 | ldHLSPe8 | rlca | rrca | rla | rra =>
    exact .flags (by simp [ListsFlags]) (storeFrame_of_finish h (storeFrame_setFlags rfl))
  | daa | scf | ccf =>
    exact .flags (by simp [ListsFlags])
      (storeFrame_of_finish h (storeFrame_setFlag (storeFrame_setFlag (storeFrame_setFlag rfl))))
  | cpl =>
    exact .flags (by simp [ListsFlags]) (storeFrame_of_finish h (storeFrame_setFlag (storeFrame_setFlag rfl)))
  | ei | di | reti => exact .ime _ (by simp) (quiet_of_finish h ⟨rfl, rfl⟩)
  | stop n => exact .stop n (quiet_of_finish h ⟨rfl, rfl⟩)
  | unsupported p hp => rw [exec_unsupported hp] at h; exact .unsupported _ ⟨p.2, hp⟩ (quiet_of_finish h ⟨rfl, rfl⟩)

/-- Settles O55: each of the five effects an instruction can have changes only what its name allows. -/
theorem onlyNamedInstructionsChangeControlState : Obligations.OnlyNamedInstructionsChangeControlState := by
  intro i s t h
  cases exec_control i h with
  | quiet kept =>
    obtain ⟨ime, stopped, ⟨seen, log⟩, timer⟩ := storeFrame_control kept.frame
    exact ⟨fun n => absurd ime n, fun n => absurd stopped n, fun n => n.elim (absurd seen) (absurd log), timer,
      fun n => absurd kept.f n⟩
  | flags named kept =>
    obtain ⟨ime, stopped, ⟨seen, log⟩, timer⟩ := storeFrame_control kept
    exact ⟨fun n => absurd ime n, fun n => absurd stopped n, fun n => n.elim (absurd seen) (absurd log), timer,
      fun _ => named⟩
  | ime _ named kept =>
    obtain ⟨-, stopped, ⟨seen, log⟩, timer⟩ := storeFrame_control kept.frame
    exact ⟨fun _ => named, fun n => absurd stopped n, fun n => n.elim (absurd seen) (absurd log), timer,
      fun n => absurd kept.f n⟩
  | stop operand kept =>
    obtain ⟨ime, stopped, ⟨seen, log⟩, timer⟩ := storeFrame_control kept.frame
    exact ⟨fun n => absurd ime n, fun _ => ⟨stopped, operand, rfl⟩, fun n => n.elim (absurd seen) (absurd log), timer,
      fun n => absurd kept.f n⟩
  | unsupported _ named kept =>
    obtain ⟨ime, stopped, -, timer⟩ := storeFrame_control kept.frame
    exact ⟨fun n => absurd ime n, fun n => absurd stopped n, fun _ => named, timer, fun n => absurd kept.f n⟩

end Sys2Proof.Proofs
end

section
/-! The proofs of the statements on memory (20_memory.md): the map of reads and writes, what a byte write and the DMA copy
leave to be read, words and the stack, and that no step changes ROM. -/

namespace Sys2Proof.Proofs

open Sys2Proof.Machine Sys2Proof.Laws

/-! ### The map (20_memory.md R71, R76) -/

/-- The arrays are disjoint: a key belongs to one array and one offset (10_state.md R49). -/
theorem region_ext {r r' : Region} {off off' : Nat} (key : r.base + off = r'.base + off') (hoff : off < r.size)
    (hoff' : off' < r'.size) : r = r' ∧ off = off' := by
  have same : r = r' := by
    by_contra hne
    cases r <;> cases r' <;> simp only [Region.base, Region.size] at key hoff hoff' <;> first | contradiction | omega
  subst same
  exact ⟨rfl, Nat.add_left_cancel key⟩

/-- An address that is not intercepted reaches the array byte that has its key. -/
theorem route_array {a : Word} {r : Region} {off : Nat} (key : r.base + off = cellKey a) (hoff : off < r.size)
    (hio : ¬ IsIo a) : route a = .array r off := by
  rcases route_spec a with ⟨q, -, hq⟩ | ⟨r', off', hr, hk, hoff', -, -⟩
  · exact absurd (isIo_of_eq hq) hio
  · obtain ⟨rfl, rfl⟩ := region_ext (key.trans hk.symm) hoff hoff'
    exact hr

/-- Outside the second window of work RAM the key of an address is the address itself. -/
theorem cellKey_eq_self {a : Word} (h : a.toNat < 0xE000 ∨ 0xFDFF < a.toNat) : cellKey a = a.toNat := if_neg (by omega)

theorem cellKey_mirror {a : Word} (h : 0xE000 ≤ a.toNat ∧ a.toNat ≤ 0xFDFF) : cellKey a = a.toNat - 0x2000 := if_pos h

theorem not_isIo_of_ioBlock {a : Word} (high : a.toNat ≤ 0xFF7F)
    (h : a ∉ [0xFF0F#16, 0xFF40, 0xFF42, 0xFF43, 0xFF44, 0xFF46]) : ¬ IsIo a := by
  simp only [List.mem_cons, List.not_mem_nil, or_false, not_or] at h
  simp only [IsIo]
  bv_omega

/-- The arrays behind the ranges of the map above ROM, the second window of work RAM among them (R71, R74). -/
theorem route_ranges (a : Word) :
    (0x8000 ≤ a.toNat ∧ a.toNat ≤ 0x9FFF → route a = .array .vram (a.toNat - 0x8000)) ∧
    (0xA000 ≤ a.toNat ∧ a.toNat ≤ 0xBFFF → route a = .array .eram (a.toNat - 0xA000)) ∧
    (0xC000 ≤ a.toNat ∧ a.toNat ≤ 0xDFFF → route a = .array .wram (a.toNat - 0xC000)) ∧
    (0xE000 ≤ a.toNat ∧ a.toNat ≤ 0xFDFF → route a = .array .wram (a.toNat - 0xE000)) ∧
    (0xFE00 ≤ a.toNat ∧ a.toNat ≤ 0xFEFF → route a = .array .oam (a.toNat - 0xFE00)) ∧
    (0xFF00 ≤ a.toNat ∧ a.toNat ≤ 0xFF7F ∧ a ∉ [0xFF0F#16, 0xFF40, 0xFF42, 0xFF43, 0xFF44, 0xFF46] →
      route a = .array .io (a.toNat - 0xFF00)) ∧
    (0xFF80 ≤ a.toNat ∧ a.toNat ≤ 0xFFFE → route a = .array .hram (a.toNat - 0xFF80)) := by
  -- away from the mirror and the intercepted addresses, the array whose window holds the address
  have direct (r : Region) (low : r.base ≤ a.toNat) (high : a.toNat < r.base + r.size) (hio : ¬ IsIo a)
      (h : a.toNat < 0xE000 ∨ 0xFDFF < a.toNat) : route a = .array r (a.toNat - r.base) :=
    route_array (by rw [cellKey_eq_self h]; omega) (by omega) hio
  have plain (h : a.toNat < 0xFF00 ∨ 0xFF80 ≤ a.toNat ∧ a.toNat ≤ 0xFFFE) : ¬ IsIo a := by
    simp only [IsIo]
    omega
  refine ⟨fun h => ?vram, fun h => ?eram, fun h => ?wram, fun h => ?mirror, fun h => ?oam, fun ⟨low, high, h⟩ => ?io,
    fun h => ?hram⟩
  case vram => exact direct .vram h.1 (Nat.lt_succ_of_le h.2) (plain (by omega)) (by omega)
  case eram => exact direct .eram h.1 (Nat.lt_succ_of_le h.2) (plain (by omega)) (by omega)
  case wram => exact direct .wram h.1 (Nat.lt_succ_of_le h.2) (plain (by omega)) (by omega)
  case mirror =>
    refine route_array ?_ ?_ (plain (by omega))
    · rw [cellKey_mirror h, Region.base]
      omega
    · rw [Region.size]
      omega
  case oam => exact direct .oam h.1 (Nat.lt_succ_of_le h.2) (plain (by omega)) (by omega)
  case io => exact direct .io low (Nat.lt_succ_of_le high) (not_isIo_of_ioBlock high h) (by omega)
  case hram => exact direct .hram h.1 a.isLt (plain (by omega)) (by omega)

theorem readByte_of_route {a : Word} {r : Region} {off : Nat} (s : State) (h : route a = .array r off) :
    s.readByte a = s.arrayByte r off := by
  rw [State.readByte, h]

theorem readByte_ioAddr {a : Word} {q : IoReg} (s : State) (h : a.toNat = ioAddr q) : s.readByte a = s.ioReg q := by
  rw [State.readByte, route_ioAddr h]

theorem writeByte_rom {a : Word} (v : Byte) (s : State) (h : a.toNat ≤ 0x7FFF) :
    writeByte a v s = raiseFatal (.romWrite a v) s := by
  rw [writeByte, route_rom h]

theorem writeByte_of_route {a : Word} {r : Region} {off : Nat} (v : Byte) (s : State) (hr : r ≠ .rom)
    (h : route a = .array r off) : writeByte a v s = .next (s.setArrayByte r off v) := by
  rw [writeByte, h]
  cases r
  case rom => exact absurd rfl hr
  all_goals rfl

theorem writeByte_ioAddr {a : Word} {q : IoReg} (v : Byte) (s : State) (h : a.toNat = ioAddr q) :
    writeByte a v s = .next (s.setIoReg q v) := by
  rw [writeByte, route_ioAddr h]

/-- Settles O20: each range reaches its array, each intercepted address its register. -/
theorem readMap : Obligations.ReadMap := by
  intro s a
  obtain ⟨vram, eram, wram, mirror, oam, io, hram⟩ := route_ranges a
  exact ⟨fun h => readByte_of_route s (route_rom h), fun h => readByte_of_route s (vram h),
    fun h => readByte_of_route s (eram h), fun h => readByte_of_route s (wram h), fun h => readByte_of_route s (mirror h),
    fun h => readByte_of_route s (oam h), readByte_ioAddr (q := .ifl) s rfl, readByte_ioAddr (q := .lcdc) s rfl,
    readByte_ioAddr (q := .scy) s rfl, readByte_ioAddr (q := .scx) s rfl, readByte_ioAddr (q := .ly) s rfl,
    readByte_ioAddr (q := .dma) s rfl, fun h => readByte_of_route s (io h), fun h => readByte_of_route s (hram h),
    readByte_ioAddr (q := .ie) s rfl⟩

/-- Settles O21: the same map, through what a write does to an array byte or a register. -/
theorem writeMap : Obligations.WriteMap := by
  intro s a v
  obtain ⟨vram, eram, wram, mirror, oam, io, hram⟩ := route_ranges a
  have array {r : Region} {off : Nat} (hr : r ≠ .rom) := writeByte_of_route (a := a) (off := off) v s hr
  exact ⟨writeByte_rom v s, fun h => array nofun (vram h), fun h => array nofun (eram h), fun h => array nofun (wram h),
    fun h => array nofun (mirror h), fun h => array nofun (oam h), writeByte_ioAddr (q := .ifl) v s rfl,
    writeByte_ioAddr (q := .lcdc) v s rfl, writeByte_ioAddr (q := .scy) v s rfl, writeByte_ioAddr (q := .scx) v s rfl,
    writeByte_ioAddr (q := .ly) v s rfl, writeByte_ioAddr (q := .dma) v s rfl, fun h => array nofun (io h),
    fun h => array nofun (hram h), writeByte_ioAddr (q := .ie) v s rfl⟩

/-! ### A byte write, as seen through reads (20_memory.md R74, R80, R85) -/

/-- Two addresses that are not intercepted have one key exactly when they name one byte (R74). -/
theorem cellKey_eq_iff_alias {x a : Word} (ha : ¬ IsIo a) : (¬ IsIo x ∧ cellKey x = cellKey a) ↔ Alias x a := by
  have hx := x.isLt
  have ha' := a.isLt
  simp only [Alias, IsIo, cellKey, ← BitVec.toNat_inj] at ha ⊢
  split <;> split <;> omega

/-- An intercepted address names its byte alone: the mirror ends below it. -/
theorem alias_iff_eq_of_isIo {x a : Word} (ha : IsIo a) : Alias x a ↔ x = a := by
  refine ⟨fun h => ?_, .inl⟩
  simp only [Alias, IsIo] at h ha
  bv_omega

/-- An address that reaches an array byte has that byte's key and is not intercepted. -/
theorem key_of_route {a : Word} {r : Region} {off : Nat} (h : route a = .array r off) :
    r.base + off = cellKey a ∧ ¬ IsIo a := by
  rcases route_spec a with ⟨q, hr, -⟩ | ⟨r', off', hr, key, -, -, hio⟩
  · cases h.symm.trans hr
  · cases h.symm.trans hr
    exact ⟨key, hio⟩

/-- An address is that of one register at most. -/
theorem ioAddr_unique {a : Word} {p q : IoReg} (hp : a.toNat = ioAddr p) (hq : a.toNat = ioAddr q) : p = q := by
  cases (route_ioAddr hp).symm.trans (route_ioAddr hq)
  rfl

/-- A change of one intercepted register is seen at no other address. -/
theorem readByte_of_other_ioReg {s t : State} {q : IoReg} (mem : t.mem = s.mem) (io : ∀ p, p ≠ q → t.ioReg p = s.ioReg p)
    {x : Word} (hx : x.toNat ≠ ioAddr q) : t.readByte x = s.readByte x := by
  rcases route_spec x with ⟨p, hr, hp⟩ | ⟨r, off, hr, -⟩
  · rw [readByte_ioAddr t hp, readByte_ioAddr s hp]
    exact io p fun e => hx (e ▸ hp)
  · rw [readByte_of_route t hr, readByte_of_route s hr, State.arrayByte, mem, State.arrayByte]

/-- DMA is seen at 0xFF46 alone. -/
theorem readByte_setDma (s : State) (v : Byte) {x : Word} (hx : x ≠ 0xFF46) :
    ({ s with dma := v } : State).readByte x = s.readByte x := by
  refine readByte_of_other_ioReg (s := s) (t := { s with dma := v }) (q := .dma) rfl (fun p hp => ?_) fun e =>
    hx (BitVec.eq_of_toNat_eq e)
  cases p
  case dma => exact absurd rfl hp
  all_goals rfl

/-- A store away from LY and DMA: the byte is read at every name of its address, and nowhere else. -/
theorem byteStored_of_reads {a : Word} {v : Byte} {s t : State} (ly : a ≠ 0xFF44) (dma : a ≠ 0xFF46)
    (stored : ∀ x, Alias x a → t.readByte x = v) (kept : ∀ x, ¬ Alias x a → t.readByte x = s.readByte x) :
    ByteStored a v s t :=
  ⟨fun x hx => (stored x hx).trans (if_neg ly).symm, fun h => absurd h dma, fun x hx _ => kept x hx⟩

theorem byteStored_array {a : Word} {v : Byte} {s : State} {r : Region} {off : Nat} (wf : s.mem.wf)
    (h : route a = .array r off) : ByteStored a v s (s.setArrayByte r off v) := by
  obtain ⟨key, hio⟩ := key_of_route h
  refine byteStored_of_reads (fun e => hio ?_) (fun e => hio ?_) (fun x hx => ?_) fun x hx => ?_
  · exact isIo_of_eq (q := .ly) (congrArg BitVec.toNat e)
  · exact isIo_of_eq (q := .dma) (congrArg BitVec.toNat e)
  · rw [readByte_setArrayByte wf, key, if_pos ((cellKey_eq_iff_alias hio).2 hx)]
  · rw [readByte_setArrayByte wf, key, if_neg (mt (cellKey_eq_iff_alias hio).1 hx)]

/-- A write of a register other than LY and DMA sets that register alone. -/
theorem ioReg_setIoReg {q : IoReg} (ly : q ≠ .ly) (dma : q ≠ .dma) (s : State) (v : Byte) (p : IoReg) :
    (s.setIoReg q v).ioReg p = if p = q then v else s.ioReg p := by
  cases q
  case ly => exact absurd rfl ly
  case dma => exact absurd rfl dma
  all_goals cases p <;> rfl

theorem mem_setIoReg {q : IoReg} (dma : q ≠ .dma) (s : State) (v : Byte) : (s.setIoReg q v).mem = s.mem := by
  cases q
  case dma => exact absurd rfl dma
  all_goals rfl

theorem byteStored_ioReg {a : Word} {q : IoReg} (ha : a.toNat = ioAddr q) (ly : q ≠ .ly) (dma : q ≠ .dma) (v : Byte)
    (s : State) : ByteStored a v s (s.setIoReg q v) := by
  have self (x : Word) := alias_iff_eq_of_isIo (x := x) (isIo_of_eq ha)
  refine byteStored_of_reads ?_ ?_ (fun x hx => ?_) fun x hx => ?_
  · rintro rfl
    exact ly (ioAddr_unique ha rfl)
  · rintro rfl
    exact dma (ioAddr_unique ha rfl)
  · rw [(self x).1 hx, readByte_ioAddr _ ha, ioReg_setIoReg ly dma, if_pos rfl]
  · refine readByte_of_other_ioReg (q := q) (mem_setIoReg dma s v) (fun p hp => ?_) fun e =>
      hx ((self x).2 (BitVec.eq_of_toNat_eq (e.trans ha.symm)))
    rw [ioReg_setIoReg ly dma, if_neg hp]

/-- A write to LY is discarded (R89). -/
theorem byteStored_ly (v : Byte) (s : State) : ByteStored 0xFF44 v s s :=
  ⟨fun _ _ => (if_pos rfl).symm, fun h => absurd h (by decide), fun _ _ _ => rfl⟩

/-! ### The DMA copy (R87) -/

/-- OAM holds the bytes its source addresses held before the copy. -/
theorem readByte_dmaCopy_target {s : State} (wf : s.mem.wf) (v : Byte) {i : Nat} (hi : i < 160) :
    (dmaCopy v s).readByte (0xFE00 + BitVec.ofNat 16 i) = s.readByte (concat v 0x00 + BitVec.ofNat 16 i) := by
  have addr : (0xFE00 + BitVec.ofNat 16 i : Word).toNat = 0xFE00 + i := by bv_omega
  rw [dmaCopy, readByte_dmaCopyFrom wf v 160 0 (by omega), addr, if_pos (by omega), Nat.add_sub_cancel_left]

/-- Outside the first 160 bytes of OAM the copy is not seen. -/
theorem readByte_dmaCopy_other {s : State} (wf : s.mem.wf) (v : Byte) {x : Word} (hx : ¬ DmaTarget x) :
    (dmaCopy v s).readByte x = s.readByte x := by
  rw [dmaCopy, readByte_dmaCopyFrom wf v 160 0 (by omega), if_neg]
  simp only [DmaTarget] at hx
  omega

theorem byteStored_dma {s : State} (wf : s.mem.wf) (v : Byte) :
    ByteStored 0xFF46 v s (dmaCopy v { s with dma := v }) := by
  have kept {x : Word} (hx : ¬ DmaTarget x) := readByte_dmaCopy_other (s := { s with dma := v }) wf v hx
  have self (x : Word) := alias_iff_eq_of_isIo (x := x) (isIo_of_eq (a := 0xFF46) (q := .dma) rfl)
  refine ⟨fun x hx => ?_, fun _ i hi => readByte_dmaCopy_target (s := { s with dma := v }) wf v hi, fun x hx hd => ?_⟩
  · rw [(self x).1 hx, if_neg (by decide), kept (by unfold DmaTarget; decide), readByte_ioAddr (q := .dma) _ rfl]
    rfl
  · rw [kept fun h => hd ⟨rfl, h⟩, readByte_setDma s v fun e => hx ((self x).2 e)]

/-! ### Every byte write above ROM -/

/-- A byte write that is not fatal stores the byte, as `ByteStored` says it. -/
theorem writeByte_stored {a : Word} {v : Byte} {s t : State} (wf : s.mem.wf) (h : writeByte a v s = .next t) :
    ByteStored a v s t := by
  rcases writeByte_cases a v s with ⟨-, e⟩ | ⟨-, r, off, hr, e⟩ | ⟨-, q, -, ha, e⟩
  · cases e.symm.trans h
  · cases e.symm.trans h
    exact byteStored_array wf hr
  · cases e.symm.trans h
    by_cases ly : q = .ly
    · subst ly
      rw [show a = 0xFF44 from BitVec.eq_of_toNat_eq ha]
      exact byteStored_ly v s
    · by_cases dma : q = .dma
      · subst dma
        rw [show a = 0xFF46 from BitVec.eq_of_toNat_eq ha]
        exact byteStored_dma wf v
      · exact byteStored_ioReg ha ly dma v s

/-- Settles O22: what a completed byte write is read as, with the laws that it completes above ROM, keeps the canonical
form and changes no other field. -/
theorem readAfterByteWrite : Obligations.ReadAfterByteWrite := by
  intro s a v wf ha
  obtain ⟨t, ht⟩ := (writeByte_next_iff a v s).2 ha
  exact ⟨t, ht, writeByte_stored wf ht, writeByte_wf wf ht, writeByte_frame ht⟩

/-- Settles O23: OAM gets the source bytes, and no other read changes. When the source is OAM itself (page 0xFE), each of
its bytes gets what it held. -/
theorem dmaCopies : Obligations.DmaCopies := by
  intro s v wf
  obtain ⟨-, copied, kept⟩ := byteStored_dma wf v
  have fields : dmaCopy v { s with dma := v } = { s with dma := v, mem := (dmaCopy v { s with dma := v }).mem } :=
    dmaCopyFrom_eq _ 160 0 _
  have page : concat v 0x00 = BitVec.ofNat 16 (v.toNat * 256) := by
    apply BitVec.eq_of_toNat_eq
    rw [concat_toNat]
    bv_omega
  have others (x : Word) (hx : ¬ DmaTarget x) (hne : x ≠ 0xFF46) :
      (dmaCopy v { s with dma := v }).readByte x = s.readByte x :=
    kept x (mt (alias_iff_eq_of_isIo (isIo_of_eq (q := .dma) rfl)).1 hne) fun h => hx h.2
  refine ⟨dmaCopy v { s with dma := v }, writeByte_ioAddr (q := .dma) v s rfl, by rw [fields], by rw [fields],
    fun i hi => page ▸ copied rfl i hi, others, ?_, fields⟩
  rintro rfl x hne
  by_cases hx : DmaTarget x
  · obtain ⟨low, high⟩ := hx
    have addr : 0xFE00 + BitVec.ofNat 16 (x.toNat - 0xFE00) = x := by bv_omega
    have copy := copied rfl (x.toNat - 0xFE00) (by omega)
    rw [show concat 0xFE 0x00 = 0xFE00 from rfl, addr, readByte_setDma s 0xFE hne] at copy
    exact copy
  · exact others x hx hne

/-! ### Words and the stack (20_memory.md R90 to R94) -/

/-- A word write that is not fatal stores both bytes, low first (R91). -/
theorem writeShort_stored {a v : Word} {s t : State} (wf : s.mem.wf) (h : writeShort a v s = .next t) :
    ShortStored a v s t := by
  obtain ⟨m, low, high⟩ := andThen_eq_next h
  exact ⟨m, writeByte_stored wf low, writeByte_stored (writeByte_wf wf low) high⟩

/-- Away from LY a stored word reads back: the high byte is stored beside the low one, which neither it nor the copy that
it may start reaches. -/
theorem readShort_of_shortStored {a v : Word} {s t : State} (h : ShortStored a v s t) (ly : a ≠ 0xFF44)
    (ly' : a + 1 ≠ 0xFF44) : t.readShort a = v := by
  obtain ⟨m, ⟨low, -, -⟩, high, -, kept⟩ := h
  have apart : ¬ Alias a (a + 1) := by
    simp only [Alias]
    bv_omega
  have notCopied : ¬ (a + 1 = 0xFF46 ∧ DmaTarget a) := by
    simp only [DmaTarget]
    bv_omega
  rw [State.readShort, high _ (.inl rfl), if_neg ly', kept a apart notCopied, low _ (.inl rfl), if_neg ly,
    concat_hiByte_loByte]

/-- Settles O24: the low byte decides the first fault, the high byte the one at 0xFFFF, and a completed write is stored. -/
theorem wordWriteRoundTrip : Obligations.WordWriteRoundTrip := by
  intro s a v wf
  refine ⟨rfl, fun ha => ?rom, ?wrap, fun ⟨ha, ha'⟩ => ?stored⟩
  case rom =>
    rw [writeShort, writeByte_rom _ _ ha]
    rfl
  case wrap =>
    rintro rfl
    rw [writeShort, writeByte_ioAddr (q := .ie) _ _ rfl, andThen_next, writeByte_rom _ _ (by decide)]
    rfl
  case stored =>
    obtain ⟨t, ht⟩ := writeShort_next (v := v) (s := s) ha ha'
    have stored : ShortStored a v s t := writeShort_stored wf ht
    exact ⟨t, ht, stored, readShort_of_shortStored stored⟩

/-- The state at a fatal fault is one with the property, the reason recorded in it. -/
theorem outAll_fatal {P : State → Prop} {o : Out} {r : FatalReason} {u : State} (h : OutAll P o)
    (e : o = .fault (.fatal r u)) : ∃ w, P w ∧ u = { w with fatal := some r } := by
  subst e
  obtain ⟨_, _, w, -, -, hw, hu⟩ := h
  exact ⟨w, hw, hu⟩

/-- A word write keeps SP, and so does what it did before a fault. -/
theorem outAll_writeShort_sp (a v : Word) (s : State) : OutAll (fun t => t.sp = s.sp) (writeShort a v s) :=
  outAll_andThen (outAll_writeByte rfl fun _ low => (writeByte_kept low).sp) fun _ hm =>
    outAll_writeByte hm fun _ high => (writeByte_kept high).sp.trans hm

/-- Settles O25: SP is moved before the write, which keeps it, and the pop reads the word where the push stored it. -/
theorem pushThenPop : Obligations.PushThenPop := by
  intro s v wf
  have sp : OutAll (fun t => t.sp = s.sp - 2) (push16 v s) := outAll_writeShort_sp _ v { s with sp := s.sp - 2 }
  refine ⟨rfl, fun r u h => ?_, rfl, rfl, fun ⟨ha, ha'⟩ ly ly' => ?_⟩
  · obtain ⟨w, hw, rfl⟩ := outAll_fatal sp h
    exact hw
  · obtain ⟨t, ht⟩ : ∃ t, push16 v s = .next t := writeShort_next ha ha'
    have moved : t.sp = s.sp - 2 := outAll_next sp ht
    have stored := writeShort_stored (s := { s with sp := s.sp - 2 }) wf ht
    have next : s.sp - 2 + 1 ≠ 0xFF44 := by bv_omega
    refine ⟨t, ht, ?_, ?_⟩
    · rw [State.stackTop, moved]
      exact readShort_of_shortStored stored ly next
    · rw [State.dropTop, moved]
      exact BitVec.sub_add_cancel _ _

/-! ### ROM (20_memory.md R86) -/

/-- The memory of `t` is canonical, and every byte of ROM reads in `t` as in `s`. -/
structure RomKept (s t : State) : Prop where
  wf : t.mem.wf
  reads : ∀ a : Word, a.toNat ≤ 0x7FFF → t.readByte a = s.readByte a

/-- ROM is read from the cells alone. -/
theorem romKept_of_mem {s t u : State} (mem : u.mem = t.mem) (h : RomKept s t) : RomKept s u := by
  refine ⟨mem ▸ h.wf, fun a ha => ?_⟩
  have rom := route_rom ha
  rw [← h.reads a ha, readByte_of_route u rom, readByte_of_route t rom, State.arrayByte, mem, State.arrayByte]

/-- No byte write changes ROM: no address above it names a byte of it, and the DMA copy goes to OAM. -/
theorem romKept_writeByte {s t u : State} {a : Word} {v : Byte} (h : RomKept s t) (hw : writeByte a v t = .next u) :
    RomKept s u := by
  have above : 0x7FFF < a.toNat := (writeByte_next_iff a v t).1 ⟨u, hw⟩
  obtain ⟨-, -, kept⟩ := writeByte_stored h.wf hw
  refine ⟨writeByte_wf h.wf hw, fun x hx => (kept x ?_ ?_).trans (h.reads x hx)⟩
  · simp only [Alias]
    bv_omega
  · rintro ⟨-, low, -⟩
    omega

theorem closed_romKept (s : State) : Closed (RomKept s) where
  reg t r v := romKept_of_mem (setReg_mem t r v)
  flag _ _ _ := romKept_of_mem rfl
  sp _ _ := romKept_of_mem rfl
  pc _ _ := romKept_of_mem rfl
  ime _ _ := romKept_of_mem rfl
  ticks _ _ := romKept_of_mem rfl
  stopped _ := romKept_of_mem rfl
  unsupported _ _ := romKept_of_mem rfl
  write _ _ _ _ := romKept_writeByte

/-- Settles O18: the parts of a step keep ROM, so `step_all` gives it for a next state and for the state at a fault. After
a fatal condition a step is neither. -/
theorem romNeverChanges : Obligations.RomNeverChanges := by
  intro s a wf ha
  cases hf : s.fatal with
  | some r =>
    have aborted : step s = .fault (.noStep r) := by rw [step, hf]
    rw [aborted]
    exact ⟨nofun, nofun⟩
  | none =>
    have kept : OutAll (RomKept s) (step s) :=
      step_all (closed_romKept s) (fun _ => romKept_of_mem rfl) (fun _ _ => romKept_of_mem rfl) hf ⟨wf, fun _ _ => rfl⟩
    refine ⟨fun t ht => (outAll_next kept ht).reads a ha, fun r u hu => ?_⟩
    obtain ⟨w, hw, rfl⟩ := outAll_fatal kept hu
    exact (romKept_of_mem rfl hw).reads a ha

end Sys2Proof.Proofs
end

section
/-! The proofs of the statements on encoding and the step (30_encoding.md): the opcode map and the encoder agree, fetch is
the decoder on the bytes at PC, and the ticks of an instruction and of a step. -/

namespace Sys2Proof.Proofs

open Sys2Proof.Machine Sys2Proof.Laws

/-! ### The opcode map and the encoder (30_encoding.md R131, R137)

The map and the encoder are written apart. They are compared in two lemmas, one case per opcode byte and one per
instruction; everything after those goes by the three formats. -/

/-- The instruction of a form: `n` is its immediate if the format has one byte, `v` if it has two. -/
def instrOf (f : Form) (n : Byte) (v : Word) : Instr :=
  match f with
  | .op i => i
  | .imm8 g => g n
  | .imm16 g => g v

/-- The immediate bytes of a form, low byte first (R129). -/
def immediateBytes (f : Form) (n : Byte) (v : Word) : List Byte :=
  match f with
  | .op _ => []
  | .imm8 _ => [n]
  | .imm16 _ => [loByte v, hiByte v]

/-- The encoder gives the map's instruction at `op` the bytes that its format says. -/
theorem encode_instrOf (op n : Byte) (v : Word) :
    encode (instrOf (form op) n v) = op :: immediateBytes (form op) n v := by
  obtain ⟨k, hk, rfl⟩ : ∃ k < 256, op = BitVec.ofNat 8 k := ⟨op.toNat, op.isLt, by simp⟩
  interval_cases k <;> rfl

/-- Every instruction stands in the map at its opcode byte, with its operand for an immediate. -/
theorem exists_instrOf (i : Instr) : ∃ op n v, i = instrOf (form op) n v := by
  refine ⟨i.opcode, ?_⟩
  cases i with
  | ld_BC_d16 v | ld_atA16_SP v | ld_DE_d16 v | ld_HL_d16 v | ld_SP_d16 v | jp_NZ_a16 v | jp_a16 v | call_NZ_a16 v
  | jp_Z_a16 v | call_Z_a16 v | call_a16 v | jp_NC_a16 v | call_NC_a16 v | jp_C_a16 v | call_C_a16 v | ld_atA16_A v
  | ld_A_atA16 v => exact ⟨0, v, by simp only [Instr.opcode, encode, List.headD_cons]; rfl⟩
  | ld_B_d8 n | ld_C_d8 n | stop n | ld_D_d8 n | jr_e8 n | ld_E_d8 n | jr_NZ_e8 n | ld_H_d8 n | jr_Z_e8 n | ld_L_d8 n
  | jr_NC_e8 n | ld_atHL_d8 n | jr_C_e8 n | ld_A_d8 n | add_A_d8 n | adc_A_d8 n | sub_d8 n | sbc_A_d8 n | ldh_atA8_A n
  | and_d8 n | add_SP_e8 n | xor_d8 n | ldh_A_atA8 n | or_d8 n | ld_HL_SPe8 n | cp_d8 n =>
    exact ⟨n, 0, by simp only [Instr.opcode, encode, List.headD_cons]; rfl⟩
  | _ => exact ⟨0, 0, rfl⟩

theorem decodeBytes_eq_instrOf (op b1 b2 : Byte) : decodeBytes op b1 b2 = instrOf (form op) b1 (concat b2 b1) := by
  rw [decodeBytes]
  cases form op <;> rfl

/-! ### The list decoder (R127, R130) -/

/-- A whole instruction decodes, and what follows it is left. -/
theorem decode_instrOf (op n : Byte) (v : Word) (rest : List Byte) :
    decode (op :: (immediateBytes (form op) n v ++ rest)) = .ok (instrOf (form op) n v, rest) := by
  simp only [decode]
  cases form op with
  | op i => rfl
  | imm8 g => rfl
  | imm16 g => simp only [immediateBytes, instrOf, List.cons_append, List.nil_append, concat_hiByte_loByte]

/-- What decodes is an opcode byte and the immediate bytes of its form. -/
theorem decode_eq_ok {bytes rest : List Byte} {i : Instr} (h : decode bytes = .ok (i, rest)) :
    ∃ op n v, bytes = op :: (immediateBytes (form op) n v ++ rest) ∧ i = instrOf (form op) n v := by
  cases bytes with
  | nil => cases h
  | cons op tail =>
    refine ⟨op, ?_⟩
    simp only [decode] at h
    split at h
    · next hf =>
      cases h
      exact ⟨0, 0, by rw [hf]; exact ⟨rfl, rfl⟩⟩
    · next b1 _ hf =>
      cases h
      exact ⟨b1, 0, by rw [hf]; exact ⟨rfl, rfl⟩⟩
    · next b1 b2 _ hf =>
      cases h
      exact ⟨0, concat b2 b1, by rw [hf]; simp [immediateBytes, instrOf]⟩
    · cases h

/-- Settles O1: the instruction is the map's at some opcode byte, and there the encoder writes what the decoder reads. -/
theorem decodeOfEncode : Obligations.DecodeOfEncode := by
  intro i rest
  obtain ⟨op, n, v, rfl⟩ := exists_instrOf i
  rw [encode_instrOf]
  exact decode_instrOf op n v rest

/-- Settles O2: the bytes that decode are those of a form, which is what the encoder writes for its instruction. -/
theorem encodeOfDecode : Obligations.EncodeOfDecode := by
  intro bytes i rest h
  obtain ⟨op, n, v, rfl, rfl⟩ := decode_eq_ok h
  rw [encode_instrOf]
  rfl

theorem decode_three_eq (op b1 b2 : Byte) :
    decode [op, b1, b2] = .ok (decodeBytes op b1 b2, [op, b1, b2].drop (form op).length) := by
  simp only [decode, decodeBytes]
  cases form op <;> rfl

theorem decodeBytes_of_decode {op b1 b2 : Byte} {i : Instr} {rest : List Byte}
    (h : decode [op, b1, b2] = .ok (i, rest)) : decodeBytes op b1 b2 = i := by
  rw [decode_three_eq] at h
  injection h with h
  exact congrArg Prod.fst h

theorem decodeBytes_length (op b1 b2 : Byte) : (decodeBytes op b1 b2).length = (form op).length := by
  rw [decodeBytes_eq_instrOf, Instr.length, encode_instrOf]
  cases form op <;> rfl

theorem decodeBytes_opcode (op b1 b2 : Byte) : (decodeBytes op b1 b2).opcode = op := by
  rw [decodeBytes_eq_instrOf, Instr.opcode, encode_instrOf, List.headD_cons]

theorem encode_unsupported : ∀ p ∈ Instr.unsupportedList, encode p.1 = [p.2] := by decide

/-- The unsupported constructors stand at their own opcode bytes and nowhere else (46_system.md R404). -/
theorem decodeBytes_unsupported_iff (op b1 b2 : Byte) :
    (∃ o, (decodeBytes op b1 b2, o) ∈ Instr.unsupportedList) ↔ op ∈ Instr.unsupportedList.map Prod.snd := by
  constructor
  · rintro ⟨o, ho⟩
    have same : op = o := by
      rw [← decodeBytes_opcode op b1 b2, Instr.opcode, encode_unsupported _ ho, List.headD_cons]
    exact same ▸ List.mem_map_of_mem (f := Prod.snd) ho
  · intro h
    obtain ⟨p, hp, rfl⟩ := List.mem_map.1 h
    have decoded := decodeOfEncode p.1 [b1, b2]
    rw [encode_unsupported p hp] at decoded
    exact ⟨p.2, (decodeBytes_of_decode decoded).symm ▸ hp⟩

/-- Settles O3: the length of the opcode byte's form is the number that the statement's lists give, and every clause
goes by the form. -/
theorem everyOpcodeDecodes : Obligations.EveryOpcodeDecodes := by
  intro op b1 b2 len
  have lengths : len = (form op).length := by
    clear b1 b2
    revert op
    decide
  clear_value len
  subst lengths
  refine ⟨⟨_, decode_three_eq op b1 b2, rfl, decodeBytes_length op b1 b2, decodeBytes_unsupported_iff op b1 b2⟩, ?_⟩
  simp only [decode, decodeBytes]
  cases form op with
  | op i => simp [Form.length]
  | imm8 g => simp [Form.length]
  | imm16 g => simp [Form.length]

/-- Settles O4: the map at the eleven words. -/
theorem sampleWordsDecode : Obligations.SampleWordsDecode :=
  ⟨rfl, rfl, rfl, rfl, rfl, rfl, rfl, rfl, rfl, rfl, rfl⟩

/-! ### Fetch and the step (R121 to R125) -/

/-- Settles O6: the first byte read selects the form, and the bytes read after it are the form's immediate. -/
theorem bytesAtPcAreFetched : Obligations.BytesAtPcAreFetched := by
  intro s i h
  obtain ⟨op, n, v, rfl⟩ := exists_instrOf i
  rw [encode_instrOf] at h
  have opcode : s.readByte s.pc = op := by simpa using h 0 op rfl
  rw [fetch, decodeBytes_eq_instrOf, opcode]
  generalize form op = f at h ⊢
  cases f with
  | op i => rfl
  | imm8 g => exact congrArg g (h 1 n rfl)
  | imm16 g =>
    have low : s.readByte (s.pc + 1) = loByte v := h 1 _ rfl
    have high : s.readByte (s.pc + 2) = hiByte v := h 2 _ rfl
    rw [low, high, concat_hiByte_loByte]
    rfl

/-- Settles O5: with the fetched instruction known, a running step is `andThen`, whose outcomes the statement lists. -/
theorem stepRunsDecodedInstruction : Obligations.StepRunsDecodedInstruction := by
  intro s i rest hf hs hd
  have fetched : fetch s = i := decodeBytes_of_decode hd
  rw [step_running hf hs, fetched]
  cases exec i { s with pc := s.pc + 1 } <;> rfl

/-- Settles O7: a stopped step answers its own state, so it cannot clear the latch. -/
theorem stoppedStepChangesNothing : Obligations.StoppedStepChangesNothing := by
  intro s
  refine ⟨step_stopped, fun t hs ht => ?_, rfl⟩
  obtain ⟨-, ⟨-, rfl⟩ | ⟨running, -⟩⟩ := step_eq_next ht
  · exact hs
  · rw [hs] at running
    cases running

/-- Settles O8: the recorded reason is the first thing a step looks at. -/
theorem abortedSessionHasNoStep : Obligations.AbortedSessionHasNoStep := by
  intro s r hr
  rw [step, hr]

/-! ### Ticks (R126, 60_exceptions.md R522) -/

/-- The end of an instruction adds its cost to ticks that nothing before it changed. -/
theorem finish_ticks {op : Byte} {taken : Bool} {s m t : State} (h : finish op taken m = .next t)
    (kept : m.ticks = s.ticks) : t.ticks = s.ticks + cost op taken := by
  rw [finish_eq_next h, ← kept]

/-- A store or a push before the rest of a sequence adds no ticks. -/
theorem andThen_ticks {o : Out} {k : State → Out} {s t : State} {n : Nat} (h : andThen o k = .next t)
    (first : ∀ m, o = .next m → m.ticks = s.ticks) (rest : ∀ m, k m = .next t → t.ticks = m.ticks + n) :
    t.ticks = s.ticks + n := by
  obtain ⟨m, hm, hk⟩ := andThen_eq_next h
  rw [rest m hk, first m hm]

theorem writeShort_ticks {a v : Word} {s t : State} (h : writeShort a v s = .next t) : t.ticks = s.ticks := by
  rw [writeShort_frame h]

theorem push16_ticks {v : Word} {s t : State} (h : push16 v s = .next t) : t.ticks = s.ticks :=
  (writeShort_ticks h).trans rfl

theorem store_ticks {op : Byte} {a : Word} {v : Byte} {s t : State} (h : store op a v s = .next t) :
    t.ticks = s.ticks + cost op false :=
  andThen_ticks h (fun _ hm => (writeByte_kept hm).ticks) fun _ hk => finish_ticks hk rfl

theorem storeThenHL_ticks {op : Byte} {step : Word} {s t : State} (h : storeThenHL op step s = .next t) :
    t.ticks = s.ticks + cost op false :=
  andThen_ticks h (fun _ hm => (writeByte_kept hm).ticks) fun _ hk => finish_ticks hk rfl

theorem callTo_ticks {op : Byte} {taken : Bool} {target : Word} {s t : State} (h : callTo op taken target s = .next t) :
    t.ticks = s.ticks + cost op taken :=
  andThen_ticks h (fun _ hm => push16_ticks hm) fun _ hk => finish_ticks hk rfl

/-- The conditional instructions are the four families with a condition. -/
theorem conditionOf_eq_some {i : Instr} {cc : Cond} (h : conditionOf i = some cc) :
    (∃ e, i = .jrIf cc e) ∨ (∃ a, i = .jpIf cc a) ∨ (∃ a, i = .callIf cc a) ∨ i = .retIf cc := by
  cases i with
  | jr_NZ_e8 e | jr_Z_e8 e | jr_NC_e8 e | jr_C_e8 e => cases h; exact .inl ⟨e, rfl⟩
  | jp_NZ_a16 a | jp_Z_a16 a | jp_NC_a16 a | jp_C_a16 a => cases h; exact .inr (.inl ⟨a, rfl⟩)
  | call_NZ_a16 a | call_Z_a16 a | call_NC_a16 a | call_C_a16 a => cases h; exact .inr (.inr (.inl ⟨a, rfl⟩))
  | ret_NZ | ret_Z | ret_NC | ret_C => cases h; exact .inr (.inr (.inr rfl))
  | _ => cases h

/-- A conditional instruction adds its cost, with the extra if its condition holds. -/
theorem exec_ticks_conditional {i : Instr} {cc : Cond} {s t : State} (hc : conditionOf i = some cc)
    (h : exec i s = .next t) : t.ticks = s.ticks + cost i.opcode (s.cond cc) := by
  obtain ⟨e, rfl⟩ | ⟨a, rfl⟩ | ⟨a, rfl⟩ | rfl := conditionOf_eq_some hc
  · rw [exec_jrIf, jumpRelativeIf] at h
    split at h <;> next holds => simp only [holds]; exact finish_ticks h rfl
  · rw [exec_jpIf, jumpIf] at h
    split at h <;> next holds => simp only [holds]; exact finish_ticks h rfl
  · rw [exec_callIf, callIf] at h
    split at h
    · next holds => simp only [holds]; exact callTo_ticks (s := s.consume 2) h
    · next holds => simp only [holds]; exact finish_ticks h rfl
  · rw [exec_retIf, returnIf] at h
    split at h <;> next holds => simp only [holds]; exact finish_ticks h rfl

/-- Every other instruction adds the cost without the extra. -/
theorem exec_ticks_unconditional (i : Instr) {s t : State} (hc : conditionOf i = none) (h : exec i s = .next t) :
    t.ticks = s.ticks + cost i.opcode false := by
  induction i using instr_by_family with
  | jrIf cc | jpIf cc | callIf cc | retIf cc => cases cc <;> cases hc
  | ldReg dst src => rw [exec_ldReg] at h; exact finish_ticks h (setReg_ticks _ _ _)
  | ldImm r n => rw [exec_ldImm] at h; exact finish_ticks h (setReg_ticks _ _ _)
  | ldFromHL r => rw [exec_ldFromHL] at h; exact finish_ticks h (setReg_ticks _ _ _)
  | ldToHL r => rw [exec_ldToHL] at h; exact store_ticks h
  | ldPair p v => rw [exec_ldPair] at h; exact finish_ticks h (setPair_ticks _ _ _)
  | pop p => rw [exec_pop] at h; exact finish_ticks h (setStackPair_ticks _ _ _)
  | alu k src => rw [exec_alu] at h; exact finish_ticks h rfl
  | incReg r => rw [exec_incReg] at h; exact finish_ticks h (setReg_ticks _ _ _)
  | decReg r => rw [exec_decReg] at h; exact finish_ticks h (setReg_ticks _ _ _)
  | incPair p => rw [exec_incPair] at h; exact finish_ticks h (setPair_ticks _ _ _)
  | decPair p => rw [exec_decPair] at h; exact finish_ticks h (setPair_ticks _ _ _)
  | addHL p => rw [exec_addHL] at h; exact finish_ticks h rfl
  | rst y => rw [exec_rst] at h; exact callTo_ticks h
  | call a => exact callTo_ticks (s := s.consume 2) h
  | ldAtBCA | ldAtDEA | ldAtCA => exact store_ticks h
  | ldAtHL | ldhAtA8A => exact store_ticks (s := s.consume 1) h
  | ldAtA16A a => exact store_ticks (s := s.consume 2) h
  | ldAtHLincA | ldAtHLdecA => exact storeThenHL_ticks h
  | incAtHL | decAtHL => exact andThen_ticks h (fun _ hm => (writeByte_kept hm).ticks) fun _ hk => finish_ticks hk rfl
  | ldAtA16SP a =>
    exact andThen_ticks (s := s.consume 2) h (fun _ hm => writeShort_ticks hm) fun _ hk => finish_ticks hk rfl
  | push p =>
    rw [exec_push] at h
    exact andThen_ticks h (fun _ hm => push16_ticks hm) fun _ hk => finish_ticks hk rfl
  | unsupported p hp =>
    rw [exec_unsupported hp] at h
    rw [Instr.opcode, encode_unsupported p hp]
    exact finish_ticks h rfl
  | _ => exact finish_ticks h rfl

theorem exec_ticks {i : Instr} {s t : State} (h : exec i s = .next t) : t.ticks = s.ticks + cost i.opcode (takes i s) := by
  unfold takes
  cases hc : conditionOf i with
  | none => exact exec_ticks_unconditional i hc h
  | some cc => exact exec_ticks_conditional hc h

/-- The condition is read from F alone. -/
theorem takes_congr {s t : State} (h : t.f = s.f) (i : Instr) : takes i t = takes i s := by
  unfold takes
  cases conditionOf i with
  | none => rfl
  | some cc => cases cc <;> simp only [State.cond, flag_congr h]

/-- A source is pending exactly when a bit of 0..4 is set in both IE and IF (60_exceptions.md R510, R520). -/
theorem pendingSource_eq_none_iff (ie ifl : Byte) : pendingSource ie ifl = none ↔ ie &&& ifl &&& 0x1F#8 = 0 := by
  rw [pendingSource_eq_none]
  constructor
  · intro none
    apply BitVec.eq_of_getLsbD_eq
    intro j hj
    have clear (k : Source) : (ie &&& ifl &&& 0x1F#8).getLsbD k.bit = false := by simp [none k]
    match j, hj with
    | 0, _ => exact clear .vblank
    | 1, _ => exact clear .displayStatus
    | 2, _ => exact clear .timer
    | 3, _ => exact clear .serial
    | 4, _ => exact clear .joypad
    | 5, _ | 6, _ | 7, _ => simp
  · rintro zero k ⟨enabled, pending⟩
    have bit : (ie &&& ifl &&& 0x1F#8).getLsbD k.bit = true := by
      rw [BitVec.getLsbD_and, BitVec.getLsbD_and, enabled, pending]
      cases k <;> rfl
    rw [zero] at bit
    cases k <;> cases bit

theorem dispatch_ticks {k : Source} {s t : State} (h : dispatch k s = .next t) :
    t.ticks = s.ticks + 12 ∧ t.timerSeen = s.timerSeen := by
  obtain ⟨m, hm, hk⟩ := andThen_eq_next h
  cases hk
  obtain ⟨-, -, -, -, -, -, seen, -⟩ := storeFrame_control (push16_quiet hm).frame
  have ticks : m.ticks = s.ticks := push16_ticks (s := { s with ifl := withBit s.ifl k.bit false }) hm
  exact ⟨congrArg (· + 12) ticks, seen⟩

/-- The interrupt phase adds the 12 ticks of a dispatch or none, and the timer does not see them. -/
theorem interruptStep_ticks {s t : State} (h : interruptStep s = .next t) :
    t.timerSeen = s.timerSeen ∧
      t.ticks = s.ticks + if s.ime = true ∧ s.ie &&& s.ifl &&& 0x1F#8 ≠ 0 then 12 else 0 := by
  rcases interruptStep_cases s with ⟨hs, quiet⟩ | ⟨hime, k, hk, hs⟩
  · have none : ¬ (s.ime = true ∧ s.ie &&& s.ifl &&& 0x1F#8 ≠ 0) := by
      rw [Ne, ← pendingSource_eq_none_iff]
      rintro ⟨hime, pending⟩
      rcases quiet with h | h
      · rw [hime] at h; cases h
      · exact pending h
    rw [if_neg none]
    cases hs.symm.trans h
    exact ⟨rfl, rfl⟩
  · have pending : s.ie &&& s.ifl &&& 0x1F#8 ≠ 0 := by
      rw [Ne, ← pendingSource_eq_none_iff, hk]
      exact Option.some_ne_none k
    obtain ⟨ticks, seen⟩ := dispatch_ticks (hs.symm.trans h)
    rw [if_pos ⟨hime, pending⟩]
    exact ⟨seen, ticks⟩

/-- Settles O11: the instruction's ticks are those the timer phase sees, and the interrupt phase adds its own after. -/
theorem ticksOfInstructionAndStep : Obligations.TicksOfInstructionAndStep := by
  refine ⟨fun i s t => exec_ticks, fun s t running h => ?_⟩
  obtain ⟨-, ⟨stopped, -⟩ | ⟨-, m, hm, hi⟩⟩ := step_eq_next h
  · rw [running] at stopped
    cases stopped
  · have ticks : m.ticks = s.ticks + cost (fetch s).opcode (takes (fetch s) s) := by
      have condition : takes (fetch s) { s with pc := s.pc + 1 } = takes (fetch s) s := takes_congr rfl _
      rw [exec_ticks hm, condition]
    obtain ⟨seen, total⟩ := interruptStep_ticks hi
    exact ⟨m, hm, seen.trans ticks, total.trans (congrArg (· + _) ticks)⟩

end Sys2Proof.Proofs
end

section
/-! The proofs of the statements on the 8-bit loads and stores (40_load8.md). Every load is the write of one register after
PC has passed the immediate bytes, and every store is one byte write there; the two forms that step HL add the write of HL.
Each of these shapes is settled once, and an instruction's clause is its equation over the shape. -/

namespace Sys2Proof.Proofs

open Sys2Proof.Machine Sys2Proof.Laws

/-! ### Core frames along the changes that a load is made of -/

theorem coreFrame_trans {s t u : State} (h : CoreFrame s t) (k : CoreFrame t u) : CoreFrame s u :=
  ⟨k.1.trans (by rw [h.1]), fun x => (k.2 x).trans (h.2 x)⟩

theorem coreFrame_setReg (s : State) (r : Reg) (v : Byte) : CoreFrame s (s.setReg r v) := by
  cases r <;> exact ⟨rfl, fun _ => rfl⟩

theorem coreFrame_setHL (s : State) (v : Word) : CoreFrame s (s.setHL v) := ⟨rfl, fun _ => rfl⟩

theorem coreFrame_consume (s : State) (n : Nat) : CoreFrame s (s.consume n) := ⟨rfl, fun _ => rfl⟩

theorem coreFrame_ticks (s : State) (n : Nat) : CoreFrame s { s with ticks := n } := ⟨rfl, fun _ => rfl⟩

/-! ### Operands -/

/-- An instruction of one byte has no immediate to pass. -/
@[simp] theorem consume_zero (s : State) : s.consume 0 = s := by
  simp [State.consume]

/-- HL is written through H and L alone (10_state.md R33). -/
theorem reg_setHL (s : State) (v : Word) {q : Reg} (h : q ≠ .h) (l : q ≠ .l) : (s.setHL v).reg q = s.reg q := by
  calc (s.setHL v).reg q = ((s.setReg .h (hiByte v)).setReg .l (loByte v)).reg q := rfl
    _ = s.reg q := by rw [reg_setReg, if_neg l, reg_setReg, if_neg h]

/-- The a8 and (C) forms address page 0xFF (30_encoding.md R136). -/
theorem highPage_eq_concat (n : Byte) : highPage n = concat 0xFF n := by
  have page : (0xFF : Byte).toNat = 0xFF := rfl
  have low := zext16_toNat n
  apply BitVec.eq_of_toNat_eq
  rw [concat_toNat, page, highPage]
  bv_omega

/-- Page 0xFF is above ROM. -/
theorem highPage_above_rom (n : Byte) : 0x7FFF < (concat 0xFF n).toNat := by
  have page : (0xFF : Byte).toNat = 0xFF := rfl
  rw [concat_toNat, page]
  omega

/-! ### Loads of a register (R200 to R202, R205, R206, R214, R221, R223) -/

/-- An instruction that passes `n` immediate bytes and writes `v` to one register does that and nothing else. -/
theorem exec_writes_reg {i : Instr} {r : Reg} {v : Byte} {s : State} {n : Nat}
    (h : exec i s = finish i.opcode false ((s.consume n).setReg r v)) :
    ∃ t, exec i s = .next t ∧ RegBecomes r v s t ∧ t.f = s.f ∧ t.sp = s.sp ∧ Advances i (BitVec.ofNat 16 n) s t ∧
      CoreFrame s t := by
  have reg (q : Reg) : ((s.consume n).setReg r v).reg q = if q = r then v else s.reg q := reg_setReg _ r v q
  refine ⟨_, h, ⟨(reg r).trans (if_pos rfl), fun q hq => (reg q).trans (if_neg hq)⟩, setReg_f _ _ _, setReg_sp _ _ _,
    ⟨setReg_pc _ _ _, congrArg (· + _) (setReg_ticks _ _ _)⟩, ?_⟩
  exact coreFrame_trans (coreFrame_consume s n) (coreFrame_trans (coreFrame_setReg _ r v) (coreFrame_ticks _ _))

/-- The address is given, so the byte read does not depend on the immediates that were passed. -/
theorem loadsByte_of_loadReg {i : Instr} {r : Reg} {a : Word} {s : State} {n : Nat}
    (h : exec i s = loadReg i.opcode r a (s.consume n)) : LoadsByte i r a (BitVec.ofNat 16 n) s :=
  exec_writes_reg h

/-- Settles O26: the register write of `ldRegReg`, with no immediate. -/
theorem ldRegReg : Obligations.LdRegReg := by
  intro dst src s
  have writes : exec (.ldReg dst src) s =
      finish (Instr.ldReg dst src).opcode false ((s.consume 0).setReg dst (s.reg src)) := by
    rw [exec_ldReg, consume_zero]
    rfl
  exact ⟨by cases dst <;> cases src <;> rfl, exec_writes_reg writes⟩

/-- Settles O27: the register write of `ldRegImm`, with one immediate byte. -/
theorem ldRegImmediate : Obligations.LdRegImmediate := by
  intro r n s
  exact ⟨by cases r <;> rfl, exec_writes_reg (n := 1) (exec_ldImm r n s)⟩

/-- Settles O28: each load is `loadReg` at its own address, which is taken from the registers before the write. -/
theorem loadsFromMemory : Obligations.LoadsFromMemory := by
  intro r a n s
  have fromHL : LoadsByte (.ldFromHL r) r s.hl 0 s :=
    loadsByte_of_loadReg (n := 0) (by rw [consume_zero, exec_ldFromHL])
  have fromBC : LoadsByte .ld_A_atBC .a s.bc 0 s := loadsByte_of_loadReg (n := 0) (by rw [consume_zero]; rfl)
  have fromDE : LoadsByte .ld_A_atDE .a s.de 0 s := loadsByte_of_loadReg (n := 0) (by rw [consume_zero]; rfl)
  have fromA16 : LoadsByte (.ld_A_atA16 a) .a a 2 s := loadsByte_of_loadReg (n := 2) rfl
  have fromA8 : LoadsByte (.ldh_A_atA8 n) .a (highPage n) 1 s := loadsByte_of_loadReg (n := 1) rfl
  have fromC : LoadsByte .ld_A_atC .a (highPage s.c) 0 s := loadsByte_of_loadReg (n := 0) (by rw [consume_zero]; rfl)
  rw [highPage_eq_concat] at fromA8 fromC
  exact ⟨⟨by cases r <;> rfl, fromHL⟩, ⟨rfl, fromBC⟩, ⟨rfl, fromDE⟩, ⟨rfl, fromA16⟩, ⟨rfl, fromA8⟩, ⟨rfl, fromC⟩⟩

/-! ### Loads that step HL (R210, R212) -/

/-- A is read at the old HL, and HL is stepped after it: neither write reaches the other's registers. -/
theorem exec_loads_then_steps {i : Instr} {step : Word} {s : State} (h : exec i s = loadThenHL i.opcode step s) :
    ∃ t, exec i s = .next t ∧ t.a = s.readByte s.hl ∧ t.hl = s.hl + step ∧
      (∀ q, q ≠ .a → q ≠ .h → q ≠ .l → t.reg q = s.reg q) ∧ t.f = s.f ∧ t.sp = s.sp ∧ Advances i 0 s t ∧
      CoreFrame s t := by
  refine ⟨_, h, rfl, hl_setHL (s.setReg .a (s.readByte s.hl)) _, fun q a h l => ?_, rfl, rfl,
    ⟨(BitVec.add_zero _).symm, rfl⟩, ?_⟩
  · calc ((s.setReg .a (s.readByte s.hl)).setHL (s.hl + step)).reg q
        = (s.setReg .a (s.readByte s.hl)).reg q := reg_setHL _ _ h l
      _ = s.reg q := by rw [reg_setReg, if_neg a]
  · exact coreFrame_trans (coreFrame_setReg s .a (s.readByte s.hl))
      (coreFrame_trans (coreFrame_setHL _ (s.hl + step)) (coreFrame_ticks _ _))

/-- Settles O29: the step is 1, or -1 modulo 2^16. -/
theorem loadsThatStepHL : Obligations.LoadsThatStepHL := by
  intro s
  rw [BitVec.sub_eq_add_neg]
  exact ⟨⟨rfl, exec_loads_then_steps rfl⟩, ⟨rfl, exec_loads_then_steps rfl⟩⟩

/-! ### Stores (R203, R204, R207, R208, R213, R220, R222) -/

/-- An instruction that passes `n` immediate bytes and stores one byte: the byte write decides between the fault and the
next state, and keeps every register. -/
theorem storesByte_of_store {i : Instr} {a : Word} {v : Byte} {s : State} {n : Nat} (wf : s.mem.wf)
    (h : exec i s = store i.opcode a v (s.consume n)) : StoresByte i a v (BitVec.ofNat 16 n) s := by
  refine ⟨fun rom => ?rom, fun above => ?above⟩
  case rom =>
    rw [h, store, writeByte_rom _ _ rom]
    rfl
  case above =>
    obtain ⟨m, hm⟩ := (writeByte_next_iff a v (s.consume n)).2 above
    have kept := writeByte_kept hm
    have stored : ByteStored a v (s.consume n) m := writeByte_stored wf hm
    have next : exec i s = .next { m with ticks := m.ticks + cost i.opcode false } := by
      rw [h, store, hm]
      rfl
    have frame : StoreFrame s m := storeFrame_trans (t := s.consume n) rfl kept.storeFrame
    exact ⟨_, next, stored, kept.reg, kept.f, kept.sp,
      ⟨kept.pc, congrArg (· + _) kept.ticks⟩, storeFrame_trans frame rfl⟩

/-- Settles O30: each store is `store` at its own address; those of page 0xFF are above ROM. -/
theorem storesToMemory : Obligations.StoresToMemory := by
  intro r a n s wf
  have toHL : StoresByte (.ldToHL r) s.hl (s.reg r) 0 s :=
    storesByte_of_store (n := 0) wf (by rw [consume_zero, exec_ldToHL])
  have immToHL : StoresByte (.ld_atHL_d8 n) s.hl n 1 s := storesByte_of_store (n := 1) wf rfl
  have toBC : StoresByte .ld_atBC_A s.bc s.a 0 s := storesByte_of_store (n := 0) wf (by rw [consume_zero]; rfl)
  have toDE : StoresByte .ld_atDE_A s.de s.a 0 s := storesByte_of_store (n := 0) wf (by rw [consume_zero]; rfl)
  have toA16 : StoresByte (.ld_atA16_A a) a s.a 2 s := storesByte_of_store (n := 2) wf rfl
  have toA8 : StoresByte (.ldh_atA8_A n) (highPage n) s.a 1 s := storesByte_of_store (n := 1) wf rfl
  have toC : StoresByte .ld_atC_A (highPage s.c) s.a 0 s := storesByte_of_store (n := 0) wf (by rw [consume_zero]; rfl)
  rw [highPage_eq_concat] at toA8 toC
  exact ⟨⟨by cases r <;> rfl, toHL⟩, ⟨rfl, immToHL⟩, ⟨rfl, toBC⟩, ⟨rfl, toDE⟩, ⟨rfl, toA16⟩,
    ⟨rfl, toA8, highPage_above_rom n⟩, ⟨rfl, toC, highPage_above_rom s.c⟩⟩

/-! ### Stores that step HL (R209, R211) -/

/-- Into ROM the write is fatal, and HL is not stepped (60_exceptions.md R500). -/
theorem storeThenHL_rom (op : Byte) (step : Word) {s : State} (rom : s.hl.toNat ≤ 0x7FFF) :
    storeThenHL op step s = .fault (.fatal (.romWrite s.hl s.a) { s with fatal := some (.romWrite s.hl s.a) }) := by
  rw [storeThenHL, writeByte_rom _ _ rom]
  rfl

/-- Above ROM the byte is stored at the old HL, and HL is stepped from the value that the write kept. -/
theorem exec_stores_then_steps {i : Instr} {step : Word} {s : State} (wf : s.mem.wf)
    (h : exec i s = storeThenHL i.opcode step s) (above : 0x7FFF < s.hl.toNat) :
    ∃ t, exec i s = .next t ∧ ByteStored s.hl s.a s t ∧ t.hl = s.hl + step ∧
      (∀ q, q ≠ .h → q ≠ .l → t.reg q = s.reg q) ∧ t.f = s.f ∧ t.sp = s.sp ∧ Advances i 0 s t ∧ StoreFrame s t := by
  obtain ⟨m, hm⟩ := (writeByte_next_iff s.hl s.a s).2 above
  have kept := writeByte_kept hm
  have stored : ByteStored s.hl s.a s m := writeByte_stored wf hm
  let t : State := { m.setHL (m.hl + step) with ticks := m.ticks + cost i.opcode false }
  have next : exec i s = .next t := by
    rw [h, storeThenHL, hm]
    rfl
  have hl : t.hl = s.hl + step := (hl_setHL m _).trans (congrArg (· + step) kept.hl)
  have pc : t.pc = s.pc + 0 := kept.pc.trans (BitVec.add_zero _).symm
  exact ⟨t, next, stored, hl, fun q h l => (reg_setHL m _ h l).trans (kept.reg q), kept.f, kept.sp,
    ⟨pc, congrArg (· + _) kept.ticks⟩, storeFrame_trans kept.storeFrame rfl⟩

/-- Settles O31: the step is 1, or -1 modulo 2^16. -/
theorem storesThatStepHL : Obligations.StoresThatStepHL := by
  intro s wf
  rw [BitVec.sub_eq_add_neg]
  refine ⟨fun rom i hi => ?_, ⟨rfl, exec_stores_then_steps wf rfl⟩, ⟨rfl, exec_stores_then_steps wf rfl⟩⟩
  rcases hi with rfl | rfl
  · exact storeThenHL_rom _ _ rom
  · exact storeThenHL_rom _ _ rom

end Sys2Proof.Proofs
end

section
/-! The proofs of the statements on the 16-bit loads and the stack (41_load16.md), with ADD SP,e8, which shares the sum of
LD HL,SP+e8 (43_alu16.md R313). Every one of these instructions first passes its `n` immediate bytes and moves SP to `sp`
(to where it is, if the rule moves nothing). Then a load or POP writes one register pair, and LD (a16),SP or PUSH stores one
word, whose faults are those of `wordWriteRoundTrip`. -/

namespace Sys2Proof.Proofs

open Sys2Proof.Machine Sys2Proof.Laws

theorem coreFrame_consume_sp (s : State) (n : Nat) (sp : Word) : CoreFrame s { s.consume n with sp := sp } :=
  ⟨rfl, fun _ => rfl⟩

theorem coreFrame_setPair (s : State) (p : Pair) (v : Word) : CoreFrame s (s.setPair p v) := by
  cases p <;> exact ⟨rfl, fun _ => rfl⟩

theorem coreFrame_setFlags (s : State) (v : FlagVals) : CoreFrame s (s.setFlags v) := ⟨rfl, fun _ => rfl⟩

/-! ### Instructions that write a pair (10_state.md R32, R33) -/

/-- A pair is written through its two registers alone, and SP alone as itself. -/
theorem pairBecomes_setPair (s : State) (p : Pair) (v : Word) : PairBecomes p v s (s.setPair p v) := by
  have others (r r' q : Reg) (h : q ≠ r) (h' : q ≠ r') :
      ((s.setReg r (hiByte v)).setReg r' (loByte v)).reg q = s.reg q := by
    rw [reg_setReg, if_neg h', reg_setReg, if_neg h]
  cases p with
  | bc => exact ⟨rfl, rfl, others .b .c, rfl⟩
  | de => exact ⟨rfl, rfl, others .d .e, rfl⟩
  | hl => exact ⟨rfl, rfl, others .h .l, rfl⟩
  | sp => exact ⟨rfl, fun _ => rfl⟩

/-- The pair and SP change, and nothing else but PC and the ticks. `PairBecomes` does not see PC, the flags or the ticks. -/
theorem exec_writes_pair {i : Instr} {p : Pair} {v sp : Word} {s : State} {n : Nat}
    (h : exec i s = finish i.opcode false (({ s.consume n with sp := sp } : State).setPair p v)) :
    ∃ t, exec i s = .next t ∧ PairBecomes p v { s with sp := sp } t ∧ t.f = s.f ∧ Advances i (BitVec.ofNat 16 n) s t ∧
      CoreFrame s t := by
  have written := pairBecomes_setPair { s.consume n with sp := sp } p v
  refine ⟨_, h, ?pair, setPair_f _ _ _, ⟨setPair_pc _ _ _, congrArg (· + _) (setPair_ticks _ _ _)⟩, ?frame⟩
  case pair => cases p <;> exact written
  case frame =>
    exact coreFrame_trans (coreFrame_consume_sp s n sp) (coreFrame_trans (coreFrame_setPair _ p v) (coreFrame_ticks _ _))

/-- As `exec_writes_pair`, with a write of the four flags after that of the pair. -/
theorem exec_writes_pair_and_flags {i : Instr} {p : Pair} {v : Word} {w : FlagVals} {s : State} {n : Nat}
    (h : exec i s = finish i.opcode false (((s.consume n).setPair p v).setFlags w)) :
    ∃ t, exec i s = .next t ∧ PairBecomes p v s t ∧ FlagsBecome s t w.z w.n w.h w.c ∧
      Advances i (BitVec.ofNat 16 n) s t ∧ CoreFrame s t := by
  have written := pairBecomes_setPair (s.consume n) p v
  obtain ⟨z, neg, half, carry, low⟩ := flagsBecome_setFlags ((s.consume n).setPair p v) w
  have lowKept : ((s.consume n).setPair p v).f &&& 0x0F#8 = s.f &&& 0x0F#8 := by rw [setPair_f, consume_f]
  refine ⟨_, h, ?pair, ⟨z, neg, half, carry, low.trans lowKept⟩,
    ⟨setPair_pc _ _ _, congrArg (· + _) (setPair_ticks _ _ _)⟩, ?frame⟩
  case pair => cases p <;> exact written
  case frame =>
    exact coreFrame_trans (coreFrame_consume s n) (coreFrame_trans (coreFrame_setPair _ p v)
      (coreFrame_trans (coreFrame_setFlags _ w) (coreFrame_ticks _ _)))

/-! ### Loads of a pair (R240, R242) -/

/-- Settles O32: the pair write of `ldPairImm` with two immediate bytes, and that of SP with none. -/
theorem pairLoads : Obligations.PairLoads := by
  intro p v s
  have writesSP : exec .ld_SP_HL s = finish Instr.ld_SP_HL.opcode false ((s.consume 0).setPair .sp s.hl) := by
    rw [consume_zero]
    rfl
  obtain ⟨t, ht, ⟨sp, regs⟩, kept⟩ := exec_writes_pair (sp := s.sp) writesSP
  exact ⟨⟨by cases p <;> rfl, exec_writes_pair (n := 2) (sp := s.sp) (exec_ldPair p v s)⟩, rfl, t, ht, sp, regs, kept⟩

/-! ### SP plus a signed byte (R243, R244; 43_alu16.md R313) -/

/-- The sum modulo 2^16 of SP and the byte as a signed number. -/
theorem spPlusE8_eq_ofInt (sp : Word) (e : Byte) : spPlusE8 sp e = BitVec.ofInt 16 (sp.toNat + e.toInt) := by
  rw [BitVec.ofInt_add, BitVec.ofInt_natCast, BitVec.ofNat_toNat, BitVec.setWidth_eq]
  rfl

/-- Settles O33: both instructions write `spPlusE8` and the flags of the unsigned low bytes, to HL and to SP. -/
theorem spPlusSignedByte : Obligations.SpPlusSignedByte := by
  intro e s
  rw [← spPlusE8_eq_ofInt]
  let flags : FlagVals := { z := false, n := false, h := spHalfCarry s.sp e, c := spCarry s.sp e }
  exact ⟨⟨rfl, exec_writes_pair_and_flags (p := .hl) (n := 1) (w := flags) rfl⟩, rfl,
    exec_writes_pair_and_flags (p := .sp) (n := 1) (w := flags) rfl⟩

/-! ### Instructions that store a word (R241, R250) -/

/-- A word write that is not fatal leaves every register and the control state as they were. -/
theorem writeShort_kept {a v : Word} {s t : State} (h : writeShort a v s = .next t) : StoreKept s t := by
  obtain ⟨m, low, high⟩ := andThen_eq_next h
  exact (writeByte_kept low).trans (writeByte_kept high)

/-- A fatal word write ends the instruction: the low byte in ROM, or the high byte at 0x0000 with the low one in IE
(20_memory.md R91; 60_exceptions.md R502). -/
theorem exec_faults_of_writeShort {i : Instr} {a v : Word} {s m : State} {k : State → Out} (wf : m.mem.wf)
    (h : exec i s = andThen (writeShort a v m) k) :
    (a.toNat ≤ 0x7FFF → exec i s = .fault (.fatal (.romWrite a (loByte v))
      { m with fatal := some (.romWrite a (loByte v)) })) ∧
    (a = 0xFFFF → exec i s = .fault (.fatal (.romWrite 0x0000 (hiByte v))
      { m with ie := loByte v, fatal := some (.romWrite 0x0000 (hiByte v)) })) := by
  obtain ⟨-, rom, wrap, -⟩ := wordWriteRoundTrip m a v wf
  refine ⟨fun ha => ?_, fun ha => ?_⟩
  · rw [h, rom ha]
    rfl
  · rw [h, wrap ha]
    rfl

/-- Where both bytes are writable the word is stored, and of the registers SP alone changes. -/
theorem exec_stores_word {i : Instr} {a v sp : Word} {s : State} {n : Nat} (wf : s.mem.wf)
    (h : exec i s = andThen (writeShort a v { s.consume n with sp := sp }) (finish i.opcode false))
    (writable : ShortWritable a) :
    ∃ t, exec i s = .next t ∧ ShortStored a v s t ∧ RegsKept s t ∧ t.f = s.f ∧ t.sp = sp ∧
      Advances i (BitVec.ofNat 16 n) s t ∧ StoreFrame s t := by
  obtain ⟨low, high⟩ := writable
  obtain ⟨m, hm⟩ := writeShort_next (v := v) (s := { s.consume n with sp := sp }) low high
  have kept := writeShort_kept hm
  have stored : ShortStored a v { s.consume n with sp := sp } m := writeShort_stored wf hm
  have next : exec i s = .next { m with ticks := m.ticks + cost i.opcode false } := by
    rw [h, hm]
    rfl
  have frame : StoreFrame s m := storeFrame_trans (t := { s.consume n with sp := sp }) rfl kept.storeFrame
  exact ⟨_, next, stored, kept.reg, kept.f, kept.sp, ⟨kept.pc, congrArg (· + _) kept.ticks⟩, storeFrame_trans frame rfl⟩

/-- Settles O34: SP is stored where the two immediate bytes say, and stays. -/
theorem storeSp : Obligations.StoreSp := by
  intro a s wf
  obtain ⟨rom, wrap⟩ := exec_faults_of_writeShort (i := .ld_atA16_SP a) (m := s.consume 2) wf rfl
  exact ⟨rfl, rom, wrap, exec_stores_word (n := 2) wf rfl⟩

/-- A push after `n` immediate bytes faults as its word write does: SP has moved by then, from 1 to 0xFFFF in the second
case (20_memory.md R93). -/
theorem pushFaults_of_push16 {i : Instr} {v : Word} {s : State} {n : Nat} {k : State → Out} (wf : s.mem.wf)
    (h : exec i s = andThen (push16 v (s.consume n)) k) : PushFaults i v (BitVec.ofNat 16 n) s := by
  obtain ⟨rom, wrap⟩ := exec_faults_of_writeShort (m := { s.consume n with sp := s.sp - 2 }) wf h
  refine ⟨rom, fun one => ?_⟩
  have top : s.sp - 2 = 0xFFFF := by rw [one]; rfl
  have fault := wrap top
  rw [top] at fault
  exact fault

/-- The machine's view of a pair of `rp2[p]` is the word of the rule. -/
theorem stackPair_eq_stackWord (p : StackPair) (s : State) : s.stackPair p = stackWord p s := by cases p <;> rfl

/-- Settles O35: the push of the pair, with no immediate. -/
theorem pushPairs : Obligations.PushPairs := by
  intro p s wf
  have pushes : exec (.push p) s =
      andThen (push16 (stackWord p s) (s.consume 0)) (finish (Instr.push p).opcode false) := by
    rw [exec_push, pushPair, stackPair_eq_stackWord, consume_zero]
  exact ⟨by cases p <;> rfl, pushFaults_of_push16 wf pushes, exec_stores_word (n := 0) wf pushes⟩

/-! ### POP (R251) -/

theorem getLsbD_concat_low (hi lo : Byte) {k : Nat} (hk : k < 8) : (concat hi lo).getLsbD k = lo.getLsbD k := by
  rw [concat, BitVec.getLsbD_append, if_pos hk]

/-- The flags that POP AF takes from the low byte (10_state.md R33, R34). -/
def flagsOfByte (lo : Byte) : FlagVals := { z := lo.getLsbD 7, n := lo.getLsbD 6, h := lo.getLsbD 5, c := lo.getLsbD 4 }

theorem setAF_concat (s : State) (hi lo : Byte) :
    s.setAF (concat hi lo) = (s.setReg .a hi).setFlags (flagsOfByte lo) := by
  simp (disch := omega) only [State.setAF, hiByte_concat, getLsbD_concat_low]
  rfl

/-- POP AF writes A and the four flags, and keeps the low nibble of F (92_eei_decisions.md D29). -/
theorem exec_popAF (s : State) :
    ∃ t, exec .pop_AF s = .next t ∧ RegBecomes .a (s.readByte (s.sp + 1)) s t ∧
      FlagsBecome s t ((s.readByte s.sp).getLsbD 7) ((s.readByte s.sp).getLsbD 6) ((s.readByte s.sp).getLsbD 5)
        ((s.readByte s.sp).getLsbD 4) ∧
      t.sp = s.sp + 2 ∧ Advances .pop_AF 0 s t ∧ CoreFrame s t := by
  let m : State := s.dropTop.setReg .a (s.readByte (s.sp + 1))
  have writes : exec .pop_AF s = finish Instr.pop_AF.opcode false (m.setFlags (flagsOfByte (s.readByte s.sp))) :=
    congrArg (finish _ false) (setAF_concat s.dropTop _ _)
  have reg (q : Reg) : m.reg q = if q = .a then s.readByte (s.sp + 1) else s.reg q := reg_setReg _ .a _ q
  refine ⟨_, writes, ⟨(reg .a).trans (if_pos rfl), fun q hq => (reg q).trans (if_neg hq)⟩,
    flagsBecome_setFlags m (flagsOfByte (s.readByte s.sp)), rfl, ⟨(BitVec.add_zero _).symm, rfl⟩, ?_⟩
  exact ⟨rfl, fun _ => rfl⟩

/-- Settles O36: POP is the pair write after SP has moved, its word read at the old SP. -/
theorem popPairs : Obligations.PopPairs := by
  intro s
  have writes (i : Instr) (p : Pair) (h : exec i s = finish i.opcode false (s.dropTop.setPair p s.stackTop)) :=
    exec_writes_pair (n := 0) (sp := s.sp + 2) (h.trans (by rw [consume_zero]; rfl))
  have high : hiByte s.stackTop = s.readByte (s.sp + 1) := hiByte_concat _ _
  have low : loByte s.stackTop = s.readByte s.sp := loByte_concat _ _
  obtain ⟨bc, hbc, ⟨b, c, bcOthers, bcSp⟩, bcF, bcKept⟩ := writes .pop_BC .bc rfl
  obtain ⟨de, hde, ⟨d, e, deOthers, deSp⟩, deF, deKept⟩ := writes .pop_DE .de rfl
  obtain ⟨hl, hhl, ⟨h, l, hlOthers, hlSp⟩, hlF, hlKept⟩ := writes .pop_HL .hl rfl
  exact ⟨⟨rfl, bc, hbc, b.trans high, c.trans low, bcOthers, bcF, bcSp, bcKept⟩,
    ⟨rfl, de, hde, d.trans high, e.trans low, deOthers, deF, deSp, deKept⟩,
    ⟨rfl, hl, hhl, h.trans high, l.trans low, hlOthers, hlF, hlSp, hlKept⟩, rfl, exec_popAF s⟩

end Sys2Proof.Proofs
end

section
/-! The proofs of the statements on the 8-bit arithmetic and logic (42_alu8.md). The ALU forms, INC r and DEC r write one
register and the four flags after PC has passed the immediate bytes; INC (HL) and DEC (HL) store one byte and then write the
flags. Each of the two shapes is settled once. INC and DEC fit them because leaving C alone is writing back the value it
has. -/

namespace Sys2Proof.Proofs

open Sys2Proof.Machine Sys2Proof.Laws

/-! ### Instructions that write a register and the four flags -/

/-- As `exec_writes_reg`, with a write of the four flags after that of the register. -/
theorem exec_writes_reg_and_flags {i : Instr} {r : Reg} {v : Byte} {w : FlagVals} {s : State} {n : Nat}
    (h : exec i s = finish i.opcode false (((s.consume n).setReg r v).setFlags w)) :
    ∃ t, exec i s = .next t ∧ RegBecomes r v s t ∧ FlagsBecome s t w.z w.n w.h w.c ∧ t.sp = s.sp ∧
      Advances i (BitVec.ofNat 16 n) s t ∧ CoreFrame s t := by
  have reg (q : Reg) : ((s.consume n).setReg r v).reg q = if q = r then v else s.reg q := reg_setReg _ r v q
  obtain ⟨z, neg, half, carry, low⟩ := flagsBecome_setFlags ((s.consume n).setReg r v) w
  have lowKept : ((s.consume n).setReg r v).f &&& 0x0F#8 = s.f &&& 0x0F#8 := by rw [setReg_f, consume_f]
  refine ⟨_, h, ⟨(reg r).trans (if_pos rfl), fun q hq => (reg q).trans (if_neg hq)⟩,
    ⟨z, neg, half, carry, low.trans lowKept⟩, setReg_sp _ _ _,
    ⟨setReg_pc _ _ _, congrArg (· + _) (setReg_ticks _ _ _)⟩, ?_⟩
  exact coreFrame_trans (coreFrame_consume s n) (coreFrame_trans (coreFrame_setReg _ r v)
    (coreFrame_trans (coreFrame_setFlags _ w) (coreFrame_ticks _ _)))

/-! ### The ALU forms (R271, R134) -/

/-- The operation code stands in bits 5..3, the source code in bits 2..0 or the immediate after the opcode byte. -/
theorem encode_alu (k : AluOp) (src : AluSrc) : encode (.alu k src) = aluBytes k.code src := by
  cases src with
  | reg r => cases k <;> cases r <;> rfl
  | atHL => cases k <;> rfl
  | d8 n => cases k <;> rfl

/-- Settles O40: the operand is read off the state, and the bytes are those of `encode_alu`. -/
theorem aluSourceOperand : Obligations.AluSourceOperand := fun _ =>
  ⟨rfl, rfl, rfl, rfl, rfl, rfl, rfl, rfl, fun _ => rfl, encode_alu⟩

theorem ofNat_aluSrcBytes (src : AluSrc) : BitVec.ofNat 16 (aluSrcBytes src) = aluOperandBytes src := by
  cases src <;> rfl

/-- An ALU instruction leaves in A and the flags what its operation computes, and changes nothing else. -/
theorem accBecomes_alu (k : AluOp) (src : AluSrc) (s : State) {value : Nat} {w : FlagVals}
    (hvalue : (aluCompute k s.a (s.aluSrc src) (s.flag .c)).value.toNat = value)
    (hflags : (aluCompute k s.a (s.aluSrc src) (s.flag .c)).flags = w) :
    AccBecomes (.alu k src) value w.z w.n w.h w.c (aluOperandBytes src) s := by
  subst hvalue hflags
  obtain ⟨t, ht, ⟨a, others⟩, flags, sp, advances, frame⟩ := exec_writes_reg_and_flags (r := .a) (exec_alu k src s)
  rw [ofNat_aluSrcBytes] at advances
  exact ⟨t, ht, congrArg BitVec.toNat a, others, flags, sp, advances, frame⟩

/-! ### ADD and ADC (R272, R274) -/

/-- Settles O37: the model computes both sums exactly and narrows them last. -/
theorem addAndAdc : Obligations.AddAndAdc := fun src s =>
  ⟨⟨encode_alu .add src, accBecomes_alu .add src s (BitVec.toNat_ofNat _ _) rfl⟩,
    ⟨encode_alu .adc src, accBecomes_alu .adc src s (BitVec.toNat_ofNat _ _) rfl⟩⟩

/-! ### SUB, SBC and CP (R275, R276, R280) -/

/-- The zero test of a byte is that of its number. -/
theorem beq_zero_eq_decide_toNat (v : Byte) : (v == 0) = decide (v.toNat = 0) :=
  decide_eq_decide.2 BitVec.toNat_eq

/-- The difference modulo 256, with 256 added so that it is not cut off at 0. -/
theorem aluSub_value (a x : Byte) : (aluSub a x).value.toNat = (a.toNat + 256 - x.toNat) % 256 := by
  have ha := a.isLt
  have hx := x.isLt
  rw [aluSub, BitVec.toNat_sub]
  omega

theorem aluSub_flags (a x : Byte) : (aluSub a x).flags =
    { z := decide ((a.toNat + 256 - x.toNat) % 256 = 0), n := true, h := decide (a.toNat % 16 < x.toNat % 16),
      c := decide (a.toNat < x.toNat) } := by
  rw [← aluSub_value, ← beq_zero_eq_decide_toNat]
  rfl

/-- With the borrow-in, two bytes may be taken away: 512 is added. -/
theorem aluSbc_value (a x : Byte) (cin : Bool) :
    (aluSbc a x cin).value.toNat = (a.toNat + 512 - x.toNat - cin.toNat) % 256 := by
  have ha := a.isLt
  have hx := x.isLt
  have hc := cin.toNat_le
  rw [aluSbc, BitVec.toNat_sub, BitVec.toNat_sub, BitVec.toNat_ofNat]
  omega

theorem aluSbc_flags (a x : Byte) (cin : Bool) : (aluSbc a x cin).flags =
    { z := decide ((a.toNat + 512 - x.toNat - cin.toNat) % 256 = 0), n := true,
      h := decide (a.toNat % 16 < x.toNat % 16 + cin.toNat), c := decide (a.toNat < x.toNat + cin.toNat) } := by
  rw [← aluSbc_value, ← beq_zero_eq_decide_toNat]
  rfl

/-- Settles O38: CP has the flags of SUB and the value A had. -/
theorem subSbcAndCp : Obligations.SubSbcAndCp := fun src s =>
  ⟨⟨encode_alu .sub src, accBecomes_alu .sub src s (aluSub_value _ _) (aluSub_flags _ _)⟩,
    ⟨encode_alu .sbc src, accBecomes_alu .sbc src s (aluSbc_value _ _ _) (aluSbc_flags _ _ _)⟩,
    ⟨encode_alu .cp src, accBecomes_alu .cp src s rfl (aluSub_flags _ _)⟩⟩

/-! ### AND, XOR and OR (R277 to R279) -/

/-- Settles O39: the statement's values and flags are those the model computes. -/
theorem andXorAndOr : Obligations.AndXorAndOr := fun src s =>
  ⟨⟨encode_alu .and src, accBecomes_alu .and src s rfl rfl⟩,
    ⟨encode_alu .xor src, accBecomes_alu .xor src s rfl rfl⟩,
    ⟨encode_alu .or src, accBecomes_alu .or src s rfl rfl⟩⟩

/-! ### The flags of INC and DEC (R281 to R284) -/

/-- The flags that INC of the byte `v` leaves when C is `c`. -/
def incFlagVals (v : Byte) (c : Bool) : FlagVals := { z := v + 1 == 0, n := false, h := v.toNat % 16 == 0x0F, c := c }

/-- The flags that DEC of the byte `v` leaves when C is `c`. -/
def decFlagVals (v : Byte) (c : Bool) : FlagVals := { z := v - 1 == 0, n := true, h := v.toNat % 16 == 0x00, c := c }

theorem withBit_getLsbD (f : Byte) {k : Nat} (hk : k < 8) : withBit f k (f.getLsbD k) = f := by
  apply BitVec.eq_of_getLsbD_eq
  intro j _
  rw [getLsbD_withBit f k hk]
  split
  · next same => rw [same]
  · rfl

/-- Writing to a flag the value it has changes nothing. -/
theorem setFlag_of_flag {s : State} {k : Flag} {v : Bool} (h : s.flag k = v) : s.setFlag k v = s := by
  rw [← h, State.setFlag, State.flag, withBit_getLsbD s.f (flag_bit_lt k)]

theorem incFlags_carry (s : State) (v : Byte) : (s.incFlags v).flag .c = s.flag .c := by
  simp [State.incFlags, flag_setFlag]

theorem decFlags_carry (s : State) (v : Byte) : (s.decFlags v).flag .c = s.flag .c := by
  simp [State.decFlags, flag_setFlag]

/-- Z, N and H are written, and C is written back last. -/
theorem incFlags_eq_setFlags (s : State) (v : Byte) : s.incFlags v = s.setFlags (incFlagVals v (s.flag .c)) :=
  (setFlag_of_flag (incFlags_carry s v)).symm

theorem decFlags_eq_setFlags (s : State) (v : Byte) : s.decFlags v = s.setFlags (decFlagVals v (s.flag .c)) :=
  (setFlag_of_flag (decFlags_carry s v)).symm

/-! ### INC r and DEC r (R281, R283) -/

/-- A register write does not reach F. -/
theorem flag_setReg (s : State) (r : Reg) (v : Byte) (k : Flag) : (s.setReg r v).flag k = s.flag k :=
  flag_congr (setReg_f s r v) k

/-- Settles O41: the register write and the flag write of `incReg8` and `decReg8`, with no immediate. -/
theorem incAndDecRegister : Obligations.IncAndDecRegister := by
  intro r s
  have inc : exec (.incReg r) s = finish (Instr.incReg r).opcode false
      (((s.consume 0).setReg r (s.reg r + 1)).setFlags (incFlagVals (s.reg r) (s.flag .c))) := by
    rw [exec_incReg, incReg8, incFlags_eq_setFlags, flag_setReg, consume_zero]
  have dec : exec (.decReg r) s = finish (Instr.decReg r).opcode false
      (((s.consume 0).setReg r (s.reg r - 1)).setFlags (decFlagVals (s.reg r) (s.flag .c))) := by
    rw [exec_decReg, decReg8, decFlags_eq_setFlags, flag_setReg, consume_zero]
  exact ⟨⟨by cases r <;> rfl, exec_writes_reg_and_flags inc⟩, ⟨by cases r <;> rfl, exec_writes_reg_and_flags dec⟩⟩

/-- Settles O43: `incAndDecRegister` at the state before INC r, and again at the state that INC r leaves. -/
theorem decUndoesInc : Obligations.DecUndoesInc := by
  intro r s
  obtain ⟨⟨-, m, hm, ⟨up, upOthers⟩, ⟨-, -, -, upCarry, -⟩, -⟩, -⟩ := incAndDecRegister r s
  obtain ⟨-, -, t, ht, ⟨down, downOthers⟩, ⟨-, -, -, downCarry, -⟩, -⟩ := incAndDecRegister r m
  refine ⟨m, t, hm, ht, fun q => ?_, upCarry, downCarry.trans upCarry⟩
  by_cases hq : q = r
  · rw [hq, down, up, BitVec.add_sub_cancel]
  · rw [downOthers q hq, upOthers q hq]

/-! ### INC (HL) and DEC (HL) (R282, R284) -/

/-- An instruction that stores one byte at HL and then writes the flags, which may depend on C as it was: the byte write
decides between the fault, with no flag written, and the next state. -/
theorem exec_stores_atHL_and_flags {i : Instr} {v : Byte} {w : Bool → FlagVals} {flags : State → State} {s : State}
    (wf : s.mem.wf) (h : exec i s = andThen (writeByte s.hl v s) fun m => finish i.opcode false (flags m))
    (writes : ∀ m : State, flags m = m.setFlags (w (m.flag .c))) :
    (s.hl.toNat ≤ 0x7FFF →
      exec i s = .fault (.fatal (.romWrite s.hl v) { s with fatal := some (.romWrite s.hl v) })) ∧
    (0x7FFF < s.hl.toNat → ∃ t, exec i s = .next t ∧ ByteStored s.hl v s t ∧
      FlagsBecome s t (w (s.flag .c)).z (w (s.flag .c)).n (w (s.flag .c)).h (w (s.flag .c)).c ∧ RegsKept s t ∧
      t.sp = s.sp ∧ Advances i 0 s t ∧ StoreFrame s t) := by
  refine ⟨fun rom => ?rom, fun above => ?above⟩
  case rom =>
    rw [h, writeByte_rom _ _ rom]
    rfl
  case above =>
    obtain ⟨m, hm⟩ := (writeByte_next_iff s.hl v s).2 above
    have kept := writeByte_kept hm
    have stored : ByteStored s.hl v s m := writeByte_stored wf hm
    have next : exec i s = finish i.opcode false (m.setFlags (w (s.flag .c))) := by
      rw [h, hm, andThen_next, writes, kept.flag]
    obtain ⟨z, neg, half, carry, low⟩ := flagsBecome_setFlags m (w (s.flag .c))
    have pc : m.pc = s.pc + 0 := kept.pc.trans (BitVec.add_zero _).symm
    exact ⟨_, next, stored, ⟨z, neg, half, carry, low.trans (congrArg (· &&& 0x0F#8) kept.f)⟩, kept.reg, kept.sp,
      ⟨pc, congrArg (· + _) kept.ticks⟩, storeFrame_trans (storeFrame_setFlags kept.storeFrame) rfl⟩

/-- Settles O42: the flags follow the byte that was read before the store. -/
theorem incAndDecMemory : Obligations.IncAndDecMemory := fun s wf =>
  ⟨⟨rfl, exec_stores_atHL_and_flags wf rfl fun m => incFlags_eq_setFlags m (s.readByte s.hl)⟩,
    ⟨rfl, exec_stores_atHL_and_flags wf rfl fun m => decFlags_eq_setFlags m (s.readByte s.hl)⟩⟩

end Sys2Proof.Proofs
end

section
/-! The proofs of the statements on the 16-bit arithmetic (43_alu16.md); ADD SP,e8 stands with the 16-bit loads. INC rr and
DEC rr are the pair write of `exec_writes_pair` with no immediate and SP where it is, and ADD HL,rr is that of
`exec_writes_pair_and_flags`: keeping Z is writing back the value it has. -/

namespace Sys2Proof.Proofs

open Sys2Proof.Machine Sys2Proof.Laws

/-! ### INC rr and DEC rr (R310, R311) -/

/-- Settles O44: `incPair16` and `decPair16` write the pair and no flag. -/
theorem incAndDecPair : Obligations.IncAndDecPair := by
  intro p s
  have inc : exec (.incPair p) s = finish (Instr.incPair p).opcode false ((s.consume 0).setPair p (s.pair p + 1)) := by
    rw [exec_incPair, incPair16, consume_zero]
  have dec : exec (.decPair p) s = finish (Instr.decPair p).opcode false ((s.consume 0).setPair p (s.pair p - 1)) := by
    rw [exec_decPair, decPair16, consume_zero]
  exact ⟨⟨by cases p <;> rfl, exec_writes_pair (sp := s.sp) inc⟩, ⟨by cases p <;> rfl, exec_writes_pair (sp := s.sp) dec⟩⟩

/-! ### ADD HL,rr (R312) -/

/-- The flags that ADD HL,rr leaves for the operands `x` and `y` when Z is `z`. -/
def addHLFlagVals (x y : Word) (z : Bool) : FlagVals := { z := z, n := false, h := carry11 x y, c := carry15 x y }

/-- `addHLPair` does not write Z, which the first of the four flag writes then leaves as it is. -/
theorem addHLPair_eq_setFlags (op : Byte) (p : Pair) (s : State) : addHLPair op p s =
    finish op false ((s.setPair .hl (s.hl + s.pair p)).setFlags (addHLFlagVals s.hl (s.pair p) (s.flag .z))) := by
  have zKept : (s.setPair .hl (s.hl + s.pair p)).setFlag .z (s.flag .z) = s.setPair .hl (s.hl + s.pair p) :=
    setFlag_of_flag rfl
  rw [State.setFlags, addHLFlagVals, zKept]
  rfl

/-- Settles O45: the pair write of HL and the flag write of `addHLPair`, with no immediate. -/
theorem addToHL : Obligations.AddToHL := by
  intro p s
  have add : exec (.addHL p) s = finish (Instr.addHL p).opcode false
      (((s.consume 0).setPair .hl (s.hl + s.pair p)).setFlags (addHLFlagVals s.hl (s.pair p) (s.flag .z))) := by
    rw [exec_addHL, addHLPair_eq_setFlags, consume_zero]
  exact ⟨by cases p <;> rfl, exec_writes_pair_and_flags add⟩

end Sys2Proof.Proofs
end

section
/-! The proofs of the statements on the accumulator rotates, decimal adjust and the flag operations (44_rotate_misc.md).
Each of these instructions writes A and the four flags, a flag that its rule leaves alone being written back, so one lemma
gives all their frames. The decimal arithmetic then runs DAA on what the ALU statements say of ADD, ADC, SUB and SBC. -/

namespace Sys2Proof.Proofs

open Sys2Proof.Machine Sys2Proof.Laws

/-! ### Instructions that write A and the four flags -/

/-- An instruction of one byte that writes A and then the flags. -/
theorem accBecomes_of_writes {i : Instr} {v : Byte} {w : FlagVals} {s : State} {value : Nat}
    (h : exec i s = finish i.opcode false (({ s with a := v } : State).setFlags w)) (hvalue : v.toNat = value) :
    AccBecomes i value w.z w.n w.h w.c 0 s := by
  have writes : exec i s = finish i.opcode false (((s.consume 0).setReg .a v).setFlags w) := by
    rw [h, consume_zero]
    rfl
  obtain ⟨t, ht, ⟨a, others⟩, kept⟩ := exec_writes_reg_and_flags writes
  exact ⟨t, ht, (congrArg BitVec.toNat a).trans hvalue, others, kept⟩

/-- Keeping Z is writing back the value it has. -/
theorem setFlags_keeping_z (s : State) (n h c : Bool) :
    s.setFlags { z := s.flag .z, n := n, h := h, c := c } = ((s.setFlag .n n).setFlag .h h).setFlag .c c := by
  rw [State.setFlags, setFlag_of_flag rfl]

/-- Keeping N is writing back the value it has. -/
theorem setFlags_keeping_n (s : State) (z h c : Bool) :
    s.setFlags { z := z, n := s.flag .n, h := h, c := c } = ((s.setFlag .z z).setFlag .h h).setFlag .c c := by
  have nKept : (s.setFlag .z z).flag .n = s.flag .n := by simp [flag_setFlag]
  rw [State.setFlags, setFlag_of_flag nKept]

/-- Keeping Z and C is writing back the values they have. -/
theorem setFlags_keeping_z_and_c (s : State) (n h : Bool) :
    s.setFlags { z := s.flag .z, n := n, h := h, c := s.flag .c } = (s.setFlag .n n).setFlag .h h := by
  have cKept : ((s.setFlag .n n).setFlag .h h).flag .c = s.flag .c := by simp [flag_setFlag]
  rw [setFlags_keeping_z, setFlag_of_flag cKept]

/-! ### RLCA, RRCA, RLA and RRA (R330 to R333) -/

theorem rotateLeft_toNat (a : Byte) (low : Bool) : (rotateLeft a low).toNat = a.toNat * 2 % 256 + low.toNat := by
  have hlow := low.toNat_le
  have shifted : a.toNat * 2 % 256 = (a.toNat % 128) <<< 1 := by
    rw [Nat.shiftLeft_eq]
    omega
  rw [rotateLeft, BitVec.toNat_or, BitVec.toNat_shiftLeft, BitVec.toNat_ofNat, Nat.shiftLeft_eq,
    Nat.mod_eq_of_lt (a := low.toNat) (by omega), Nat.pow_one, shifted, Nat.shiftLeft_add_eq_or_of_lt (by omega)]

theorem rotateRight_toNat (a : Byte) (high : Bool) : (rotateRight a high).toNat = a.toNat / 2 + high.toNat * 128 := by
  have ha := a.isLt
  have top : (BitVec.ofNat 8 high.toNat <<< 7).toNat = high.toNat <<< 7 := by cases high <;> rfl
  rw [rotateRight, BitVec.toNat_or, BitVec.toNat_ushiftRight, top, Nat.or_comm, Nat.shiftRight_eq_div_pow, Nat.pow_one,
    ← Nat.shiftLeft_add_eq_or_of_lt (by omega), Nat.shiftLeft_eq, Nat.add_comm]

/-- The bit that leaves A to the left. -/
theorem bit7_toNat (a : Byte) : (a.getLsbD 7).toNat = a.toNat / 128 := by
  have ha := a.isLt
  rw [BitVec.getLsbD, Nat.toNat_testBit]
  omega

/-- The bit that leaves A to the right. -/
theorem bit0_toNat (a : Byte) : (a.getLsbD 0).toNat = a.toNat % 2 := by
  rw [BitVec.getLsbD, Nat.toNat_testBit, Nat.pow_zero, Nat.div_one]

theorem eq_decide_toNat_eq_one (b : Bool) : b = decide (b.toNat = 1) := by cases b <;> rfl

/-- A rotate leaves its byte in A and the bit that left A in C, and clears the other flags. -/
theorem accBecomes_rotate {i : Instr} {v : Byte} {out : Bool} {value bit : Nat} {s : State}
    (h : exec i s = rotateA i.opcode v out s) (hvalue : v.toNat = value) (hout : out.toNat = bit) :
    AccBecomes i value false false false (decide (bit = 1)) 0 s := by
  rw [← hout, ← eq_decide_toNat_eq_one]
  exact accBecomes_of_writes h hvalue

/-- Settles O46: the byte enters `rotateLeft` or `rotateRight` with the bit that left A, or with the old C. -/
theorem accumulatorRotates : Obligations.AccumulatorRotates := by
  intro s
  have circularLeft := rotateLeft_toNat s.a (s.a.getLsbD 7)
  have circularRight := rotateRight_toNat s.a (s.a.getLsbD 0)
  rw [bit7_toNat] at circularLeft
  rw [bit0_toNat] at circularRight
  exact ⟨⟨rfl, accBecomes_rotate rfl circularLeft (bit7_toNat _)⟩,
    ⟨rfl, accBecomes_rotate rfl circularRight (bit0_toNat _)⟩,
    ⟨rfl, accBecomes_rotate rfl (rotateLeft_toNat _ _) (bit7_toNat _)⟩,
    ⟨rfl, accBecomes_rotate rfl (rotateRight_toNat _ _) (bit0_toNat _)⟩⟩

/-! ### DAA (R334), on numbers -/

/-- One adjustment by `k`, made if `on`: downwards after a subtraction, upwards after an addition. -/
def adjustBy (k : Nat) (n on : Bool) (v : Nat) : Nat := if on then (if n then v + 256 - k else v + k) % 256 else v

/-- Whether DAA adjusts the high digit; this is also the C it leaves. -/
def adjustsHigh (n c : Bool) (v : Nat) : Bool := if n then c else c || decide (v > 0x99)

/-- Whether DAA adjusts the low digit. -/
def adjustsLow (n h : Bool) (v : Nat) : Bool := if n then h else h || decide (v % 16 > 0x09)

/-- The number DAA leaves in A: the test of the second adjustment reads what the first one left. -/
def decimalAdjusted (n h c : Bool) (v : Nat) : Nat :=
  let v1 := adjustBy 0x60 n (adjustsHigh n c v) v
  adjustBy 0x06 n (adjustsLow n h v1) v1

theorem toNat_if_sub (on : Bool) (a k : Byte) : (if on then a - k else a).toNat = adjustBy k.toNat true on a.toNat := by
  cases on with
  | false => rfl
  | true =>
    have hk := k.isLt
    change (a - k).toNat = (a.toNat + 256 - k.toNat) % 256
    rw [BitVec.toNat_sub]
    omega

theorem toNat_if_add (on : Bool) (a k : Byte) : (if on then a + k else a).toNat = adjustBy k.toNat false on a.toNat := by
  cases on with
  | false => rfl
  | true => exact BitVec.toNat_add a k

theorem daaValue_toNat (a : Byte) (n h c : Bool) : (daaValue a n h c).toNat = decimalAdjusted n h c a.toNat := by
  cases n with
  | true => exact (toNat_if_sub h _ 0x06).trans (congrArg (adjustBy 0x06 true h) (toNat_if_sub c a 0x60))
  | false =>
    have first := toNat_if_add (c || decide (a.toNat > 0x99)) a 0x60
    refine (toNat_if_add _ _ 0x06).trans ?_
    rw [first]
    rfl

theorem daaCarry_eq_adjustsHigh (a : Byte) (n c : Bool) : daaCarry a n c = adjustsHigh n c a.toNat := by
  cases n with
  | true => exact Bool.or_false c
  | false => rfl

/-- DAA leaves the adjusted number in A and C as the first adjustment was made, and keeps N. -/
theorem accBecomes_daa (s : State) :
    AccBecomes .daa (decimalAdjusted (s.flag .n) (s.flag .h) (s.flag .c) s.a.toNat)
      (decide (decimalAdjusted (s.flag .n) (s.flag .h) (s.flag .c) s.a.toNat = 0)) (s.flag .n) false
      (adjustsHigh (s.flag .n) (s.flag .c) s.a.toNat) 0 s := by
  rw [← daaCarry_eq_adjustsHigh, ← daaValue_toNat, ← beq_zero_eq_decide_toNat]
  refine accBecomes_of_writes (w := { z := _, n := s.flag .n, h := false, c := _ }) ?_ rfl
  exact congrArg (finish _ false) (setFlags_keeping_n _ _ _ _).symm

/-- Settles O47: the statement's tests and adjustments are those of `decimalAdjusted`. -/
theorem decimalAdjust : Obligations.DecimalAdjust := fun s => ⟨rfl, accBecomes_daa s⟩

/-! ### Decimal arithmetic (R334 after R272, R274, R275 and R276) -/

/-- The packed decimal number of a number below 100, before it is narrowed to a byte. -/
def packed (x : Nat) : Nat := x / 10 * 16 + x % 10

theorem bcd_toNat {x : Nat} (hx : x < 100) : (bcd x).toNat = packed x := by
  rw [bcd, BitVec.toNat_ofNat, packed]
  omega

theorem eq_bcd_mod {v : Byte} {x : Nat} (h : v.toNat = packed (x % 100)) : v = bcd (x % 100) :=
  BitVec.eq_of_toNat_eq (h.trans (bcd_toNat (Nat.mod_lt x (by decide))).symm)

/-- The value and the flags that an instruction leaves are the operands of a DAA after it. -/
theorem daa_after {i : Instr} {value : Nat} {z n h c : Bool} {k : Word} {s : State}
    (hi : AccBecomes i value z n h c k s) :
    ∃ m t, exec i s = .next m ∧ exec .daa m = .next t ∧ t.a.toNat = decimalAdjusted n h c value ∧
      t.flag .c = adjustsHigh n c value := by
  obtain ⟨m, hm, rfl, -, ⟨-, rfl, rfl, rfl, -⟩, -⟩ := hi
  obtain ⟨t, ht, value, -, ⟨-, -, -, carry, -⟩, -⟩ := accBecomes_daa m
  exact ⟨m, t, hm, ht, value, carry⟩

section
variable {x y c : Nat}

/-- A sum of two numbers below 100 and a carry is a sum of tens and a sum of units, packed or not. -/
theorem sum_by_digits (hx : x < 100) (hy : y < 100) (hc : c ≤ 1) :
    ∃ tens units, tens ≤ 18 ∧ units ≤ 19 ∧ packed x + packed y + c = tens * 16 + units ∧
      packed x % 16 + packed y % 16 + c = units ∧ x + y + c = tens * 10 + units := by
  refine ⟨x / 10 + y / 10, x % 10 + y % 10 + c, ?_⟩
  simp only [packed]
  omega

/-- After an addition the high digit is adjusted exactly if the decimal sum has a carry: the carry out of the byte and the
test of the narrowed sum together test the exact sum. -/
theorem adjustsHigh_sum (hx : x < 100) (hy : y < 100) (hc : c ≤ 1) :
    adjustsHigh false (decide (packed x + packed y + c > 0xFF)) ((packed x + packed y + c) % 256) =
      decide (x + y + c ≥ 100) := by
  obtain ⟨tens, units, htens, hunits, hpacked, -, hsum⟩ := sum_by_digits hx hy hc
  rw [hpacked, hsum, Bool.eq_iff_iff]
  simp only [adjustsHigh, Bool.false_eq_true, if_false, Bool.or_eq_true, decide_eq_true_eq]
  omega

/-- After an addition the low digit is adjusted exactly if the units have a carry, whether or not the high digit was:
0x60 leaves the low nibble as it is. -/
theorem adjustsLow_sum (hx : x < 100) (hy : y < 100) (hc : c ≤ 1) (high : Bool) :
    adjustsLow false (decide (packed x % 16 + packed y % 16 + c > 0x0F))
        (adjustBy 0x60 false high ((packed x + packed y + c) % 256)) =
      decide (packed x % 16 + packed y % 16 + c ≥ 10) := by
  obtain ⟨tens, units, -, hunits, hpacked, hnibbles, -⟩ := sum_by_digits hx hy hc
  have nibble : adjustBy 0x60 false high ((tens * 16 + units) % 256) % 16 = units % 16 := by
    cases high <;> simp only [adjustBy, Bool.false_eq_true, if_true, if_false] <;> omega
  rw [hpacked, hnibbles, Bool.eq_iff_iff]
  simp only [adjustsLow, nibble, Bool.false_eq_true, if_false, Bool.or_eq_true, decide_eq_true_eq]
  omega

/-- The adjusted sum of two packed decimal bytes is the packed decimal sum. -/
theorem decimalAdjusted_sum (hx : x < 100) (hy : y < 100) (hc : c ≤ 1) :
    decimalAdjusted false (decide (packed x % 16 + packed y % 16 + c > 0x0F)) (decide (packed x + packed y + c > 0xFF))
      ((packed x + packed y + c) % 256) = packed ((x + y + c) % 100) := by
  rw [decimalAdjusted, adjustsHigh_sum hx hy hc, adjustsLow_sum hx hy hc]
  obtain ⟨tens, units, htens, hunits, hpacked, hnibbles, hsum⟩ := sum_by_digits hx hy hc
  rw [hpacked, hnibbles, hsum]
  simp only [adjustBy, packed, decide_eq_true_eq, Bool.false_eq_true, if_false]
  split <;> split <;> omega

/-- As `sum_by_digits`: 9 and 10 are added so that neither difference of digits is cut off at 0. The borrows are read off
the units and the whole. -/
theorem difference_by_digits (hx : x < 100) (hy : y < 100) (hc : c ≤ 1) :
    ∃ tens units, tens ≤ 18 ∧ units ≤ 19 ∧ packed x + 512 - packed y - c = tens * 16 + units + 358 ∧
      (packed x % 16 < packed y % 16 + c ↔ units < 10) ∧ x + 200 - y - c = tens * 10 + units + 100 ∧
      (x < y + c ↔ tens * 10 + units < 100) := by
  refine ⟨x / 10 + 9 - y / 10, x % 10 + 10 - y % 10 - c, ?_⟩
  simp only [packed]
  omega

/-- After a subtraction the borrow out of the byte is the decimal borrow: packing keeps the order. -/
theorem packed_lt_iff (hc : c ≤ 1) : packed x < packed y + c ↔ x < y + c := by
  simp only [packed]
  omega

/-- The adjusted difference of two packed decimal bytes is the packed decimal difference: the two tests are the borrows
of the tens and of the units. -/
theorem decimalAdjusted_difference (hx : x < 100) (hy : y < 100) (hc : c ≤ 1) :
    decimalAdjusted true (decide (packed x % 16 < packed y % 16 + c)) (decide (packed x < packed y + c))
      ((packed x + 512 - packed y - c) % 256) = packed ((x + 200 - y - c) % 100) := by
  obtain ⟨tens, units, htens, hunits, hpacked, hunitsBorrow, hdifference, htensBorrow⟩ := difference_by_digits hx hy hc
  simp only [packed_lt_iff hc, hpacked, hunitsBorrow, hdifference, htensBorrow]
  simp only [decimalAdjusted, adjustBy, adjustsHigh, adjustsLow, packed, if_true, decide_eq_true_eq]
  split <;> split <;> omega

end

/-- DAA after an instruction that leaves the exact sum of two packed decimal bytes. -/
theorem daa_after_sum {i : Instr} {x y c : Nat} {z : Bool} {k : Word} {s : State} (hx : x < 100) (hy : y < 100) (hc : c ≤ 1)
    (hi : AccBecomes i ((packed x + packed y + c) % 256) z false (decide (packed x % 16 + packed y % 16 + c > 0x0F))
      (decide (packed x + packed y + c > 0xFF)) k s) :
    ∃ m t, exec i s = .next m ∧ exec .daa m = .next t ∧ t.a = bcd ((x + y + c) % 100) ∧
      t.flag .c = decide (x + y + c ≥ 100) := by
  obtain ⟨m, t, hm, ht, value, carry⟩ := daa_after hi
  exact ⟨m, t, hm, ht, eq_bcd_mod (value.trans (decimalAdjusted_sum hx hy hc)), carry.trans (adjustsHigh_sum hx hy hc)⟩

/-- DAA after an instruction that leaves the exact difference of two packed decimal bytes. -/
theorem daa_after_difference {i : Instr} {x y c : Nat} {z : Bool} {k : Word} {s : State} (hx : x < 100) (hy : y < 100)
    (hc : c ≤ 1)
    (hi : AccBecomes i ((packed x + 512 - packed y - c) % 256) z true (decide (packed x % 16 < packed y % 16 + c))
      (decide (packed x < packed y + c)) k s) :
    ∃ m t, exec i s = .next m ∧ exec .daa m = .next t ∧ t.a = bcd ((x + 200 - y - c) % 100) ∧
      t.flag .c = decide (x < y + c) := by
  obtain ⟨m, t, hm, ht, value, carry⟩ := daa_after hi
  exact ⟨m, t, hm, ht, eq_bcd_mod (value.trans (decimalAdjusted_difference hx hy hc)),
    carry.trans (decide_eq_decide.2 (packed_lt_iff hc))⟩

/-- Settles O48: the statements on ADD, ADC, SUB and SBC give DAA its operands, ADD and SUB with no carry-in. -/
theorem decimalArithmetic : Obligations.DecimalArithmetic := by
  intro x y s hx hy ha hb c
  have hc : c ≤ 1 := Bool.toNat_le _
  have a : s.a.toNat = packed x := by rw [ha, bcd_toNat hx]
  have b : (s.aluSrc (.reg .b)).toNat = packed y := (congrArg BitVec.toNat hb).trans (bcd_toNat hy)
  obtain ⟨⟨-, add⟩, -, adc⟩ := addAndAdc (.reg .b) s
  obtain ⟨⟨-, sub⟩, ⟨-, sbc⟩, -⟩ := subSbcAndCp (.reg .b) s
  rw [a, b] at add adc sub sbc
  have noBorrow : (packed x + 256 - packed y) % 256 = (packed x + 512 - packed y - 0) % 256 := by
    have : packed y < 256 := b ▸ BitVec.isLt _
    omega
  have noBorrowDecimal : (x + 100 - y) % 100 = (x + 200 - y - 0) % 100 := by omega
  rw [noBorrow] at sub
  rw [noBorrowDecimal]
  have addDecimal := daa_after_sum (c := 0) hx hy (Nat.zero_le 1) add
  have subDecimal := daa_after_difference (c := 0) hx hy (Nat.zero_le 1) sub
  exact ⟨addDecimal, daa_after_sum hx hy hc adc, subDecimal, daa_after_difference hx hy hc sbc⟩

/-! ### CPL, SCF and CCF (R335 to R337) -/

/-- Settles O49: each flag that the rule does not name is written back. -/
theorem cplScfAndCcf : Obligations.CplScfAndCcf := by
  intro s
  have cpl : exec .cpl s = finish Instr.cpl.opcode false (({ s with a := ~~~s.a } : State).setFlags
      { z := s.flag .z, n := true, h := true, c := s.flag .c }) :=
    congrArg (finish _ false) (setFlags_keeping_z_and_c { s with a := ~~~s.a } true true).symm
  have scf : exec .scf s = finish Instr.scf.opcode false (({ s with a := s.a } : State).setFlags
      { z := s.flag .z, n := false, h := false, c := true }) :=
    congrArg (finish _ false) (setFlags_keeping_z s false false true).symm
  have ccf : exec .ccf s = finish Instr.ccf.opcode false (({ s with a := s.a } : State).setFlags
      { z := s.flag .z, n := false, h := false, c := !s.flag .c }) :=
    congrArg (finish _ false) (setFlags_keeping_z s false false (!s.flag .c)).symm
  exact ⟨⟨rfl, accBecomes_of_writes cpl BitVec.toNat_not⟩, ⟨rfl, accBecomes_of_writes scf rfl⟩,
    ⟨rfl, accBecomes_of_writes ccf rfl⟩⟩

end Sys2Proof.Proofs
end

section
/-! The proofs of the statements on control transfer (45_control.md). A jump writes PC and nothing else, a call pushes the
address after the instruction first, and a return pops PC. Each of these shapes is settled once, and a conditional is its
shape where the condition holds and the jump to the address after the instruction where it fails. -/

namespace Sys2Proof.Proofs

open Sys2Proof.Machine Sys2Proof.Laws

/-- The machine's test of a condition is that of the rule (30_encoding.md R135). -/
theorem cond_eq_condHolds (cc : Cond) (s : State) : s.cond cc = condHolds cc s := by cases cc <;> rfl

/-! ### JR, JP and the untaken path (R361 to R365) -/

/-- Where PC stood after the immediate bytes does not matter to a jump, which overwrites it. -/
theorem jumpsTo_of_finish {i : Instr} {taken : Bool} {target : Word} {s : State}
    (h : exec i s = finish i.opcode taken { s with pc := target }) : JumpsTo i taken target s :=
  ⟨_, h, fun _ => rfl, rfl, rfl, rfl, rfl, rfl, fun _ => rfl⟩

/-- A conditional jump goes to its target, or past its immediate bytes; the ticks follow the same test. -/
theorem jumpsTo_of_cond {i : Instr} {cc : Cond} {target : Word} {n : Nat} {s : State}
    (h : exec i s = if s.cond cc then finish i.opcode true { s with pc := target }
      else finish i.opcode false (s.consume n)) :
    JumpsTo i (condHolds cc s) (if condHolds cc s then target else s.pc + BitVec.ofNat 16 n) s := by
  rw [cond_eq_condHolds] at h
  cases holds : condHolds cc s with
  | true => exact jumpsTo_of_finish (h.trans (if_pos holds))
  | false => exact jumpsTo_of_finish (h.trans (if_neg (ne_true_of_eq_false holds)))

/-- The target of a relative jump is a sum of integers modulo 2^16, reckoned from the address after the instruction (R360). -/
theorem jumpTarget_eq_ofInt (pc : Word) (e : Byte) :
    jumpTarget (pc + 1) e = BitVec.ofInt 16 (pc.toNat + 1 + e.toInt) := by
  rw [BitVec.ofInt_add, BitVec.ofInt_add, BitVec.ofInt_natCast, BitVec.ofNat_toNat, BitVec.setWidth_eq]
  rfl

/-- Settles O50: each jump is the write of PC, a conditional one by its test. -/
theorem jumps : Obligations.Jumps := by
  intro cc e a s relative holds
  have jr : JumpsTo (.jr_e8 e) false (jumpTarget (s.pc + 1) e) s := jumpsTo_of_finish rfl
  have jrIf : JumpsTo (.jrIf cc e) holds (if holds then jumpTarget (s.pc + 1) e else s.pc + 1) s :=
    jumpsTo_of_cond (n := 1) (exec_jrIf cc e s)
  rw [jumpTarget_eq_ofInt] at jr jrIf
  exact ⟨⟨rfl, jr⟩, ⟨by cases cc <;> rfl, jrIf⟩, ⟨rfl, jumpsTo_of_finish rfl⟩,
    ⟨by cases cc <;> rfl, jumpsTo_of_cond (n := 2) (exec_jpIf cc a s)⟩, rfl, jumpsTo_of_finish rfl⟩

/-! ### CALL and RST (R366, R367, R372) -/

/-- Where both bytes are writable a push completes: the word is stored below the old SP, and of the registers SP alone
changes (20_memory.md R93). -/
theorem push16_stores {v : Word} {s : State} (wf : s.mem.wf) (writable : ShortWritable (s.sp - 2)) :
    ∃ m, push16 v s = .next m ∧ ShortStored (s.sp - 2) v s m ∧ StoreKept { s with sp := s.sp - 2 } m := by
  obtain ⟨low, high⟩ := writable
  obtain ⟨m, hm⟩ := writeShort_next (v := v) (s := { s with sp := s.sp - 2 }) low high
  exact ⟨m, hm, writeShort_stored (s := { s with sp := s.sp - 2 }) wf hm, writeShort_kept hm⟩

/-- The push decides between the fault and the next state, in which PC is the target. -/
theorem calls_of_callTo {i : Instr} {taken : Bool} {target : Word} {n : Nat} {s : State} (wf : s.mem.wf)
    (h : exec i s = callTo i.opcode taken target (s.consume n)) : Calls i taken target (BitVec.ofNat 16 n) s := by
  refine ⟨pushFaults_of_push16 wf h, fun writable => ?_⟩
  obtain ⟨m, hm, stored, kept⟩ := push16_stores (v := (s.consume n).pc) (s := s.consume n) wf writable
  have next : exec i s = finish i.opcode taken { m with pc := target } := by
    rw [h, callTo, hm, andThen_next]
  have frame : StoreFrame s m := storeFrame_trans (t := { s.consume n with sp := s.sp - 2 }) rfl kept.storeFrame
  exact ⟨_, next, stored, kept.reg, kept.f, kept.sp, rfl, congrArg (· + _) kept.ticks, storeFrame_trans frame rfl⟩

/-- The index of an RST stands in bits 5..3 of its opcode byte (R372). -/
theorem encode_rst : ∀ y : Fin 8, encode (.rst y) = [0xC7#8 ||| BitVec.ofNat 8 y.val <<< 3] := by decide

/-- Settles O51: an RST has no immediate bytes, and an untaken call is a jump past its two. -/
theorem callsAndRestarts : Obligations.CallsAndRestarts := by
  intro cc a y s wf holds
  have conditional : exec (.callIf cc a) s = if holds then callTo (Instr.callIf cc a).opcode true a (s.consume 2)
      else finish (Instr.callIf cc a).opcode false (s.consume 2) := by
    rw [exec_callIf, callIf, cond_eq_condHolds]
  have restart : exec (.rst y) s = callTo (Instr.rst y).opcode false (rstTarget y) (s.consume 0) := by
    rw [exec_rst, consume_zero]
  refine ⟨⟨rfl, calls_of_callTo (n := 2) wf rfl⟩, ⟨by cases cc <;> rfl, fun taken => ?_, fun untaken => ?_⟩,
    encode_rst y, calls_of_callTo (n := 0) wf restart⟩
  · exact calls_of_callTo (n := 2) wf (conditional.trans (if_pos taken))
  · exact jumpsTo_of_finish (conditional.trans (if_neg (ne_true_of_eq_false untaken)))

/-! ### RET and RETI (R368 to R370) -/

/-- A return reads PC at the old SP and writes PC, SP and the ticks alone. -/
theorem returns_of_returnFrom {i : Instr} {taken : Bool} {s : State} (h : exec i s = returnFrom i.opcode taken s) :
    Returns i taken s :=
  ⟨_, h, rfl, rfl, fun _ => rfl, rfl, rfl, rfl, fun _ => rfl⟩

/-- Settles O52: RETI is RET with the write of IME, and an untaken return is a jump to where PC is. -/
theorem returnsFromCalls : Obligations.ReturnsFromCalls := by
  intro cc s holds
  have conditional : exec (.retIf cc) s = if holds then returnFrom (Instr.retIf cc).opcode true s
      else finish (Instr.retIf cc).opcode false s := by
    rw [exec_retIf, returnIf, cond_eq_condHolds]
  refine ⟨⟨rfl, returns_of_returnFrom rfl⟩, ⟨by cases cc <;> rfl, fun taken => ?_, fun untaken => ?_⟩, rfl, ?_⟩
  · exact returns_of_returnFrom (conditional.trans (if_pos taken))
  · exact jumpsTo_of_finish (conditional.trans (if_neg (ne_true_of_eq_false untaken)))
  · exact ⟨_, rfl, rfl, rfl, rfl, fun _ => rfl, rfl, rfl, rfl, fun _ => rfl⟩

end Sys2Proof.Proofs
end

section
/-! The proofs of the statements on the system instructions (46_system.md): each is one change of the state and the ticks,
an unsupported byte is logged and free, and EI and DI are seen by the interrupt phase of their own step. -/

namespace Sys2Proof.Proofs

open Sys2Proof.Machine Sys2Proof.Laws

/-! ### NOP, HALT, STOP, DI and EI (R400 to R403, R405) -/

/-- NOP is the one byte whose cost the spec fixes at other than 0 (00_scope.md R8). -/
theorem cost_nop : cost 0x00 false = 2 := by
  rw [cost, baseTicks_nop]
  rfl

/-- Settles O53: each instruction is its own change and then `finish`; only the cost of NOP is a number. -/
theorem systemInstructions : Obligations.SystemInstructions := by
  intro n s
  have nop : exec .nop s = .next { s with ticks := s.ticks + 2 } := by
    rw [← cost_nop]
    rfl
  exact ⟨⟨rfl, nop⟩, ⟨rfl, rfl⟩, ⟨rfl, rfl⟩, ⟨rfl, rfl⟩, rfl, rfl⟩

/-! ### The twelve bytes with no handler (R404) -/

theorem cost_unsupported {op : Byte} (h : op ∈ unsupportedOpcodes) : cost op false = 0 := by
  rw [cost, baseTicks_unsupported h]
  rfl

/-- The bytes of the unsupported constructors are those that cost nothing. -/
theorem unsupportedList_opcodes : Instr.unsupportedList.map Prod.snd = unsupportedOpcodes := rfl

/-- Settles O54: the unsupported outcome is the event and the mark, and its cost is 0. -/
theorem unsupportedOpcodes : Obligations.UnsupportedOpcodes := by
  intro i op s listed
  have free : cost op false = 0 :=
    cost_unsupported (unsupportedList_opcodes ▸ List.mem_map_of_mem (f := Prod.snd) listed)
  refine ⟨encode_unsupported _ listed, (exec_unsupported listed s).trans ?_⟩
  rw [unsupported, finish, free]
  rfl

/-! ### The interrupt phase after EI and DI (R403, R405; 60_exceptions.md R520 to R525) -/

/-- While IME is clear the interrupt phase does nothing (60_exceptions.md R520). -/
theorem interruptStep_masked {s : State} (ime : s.ime = false) : interruptStep s = .next s := by
  rw [interruptStep, ime]
  rfl

theorem interruptStep_pending {s : State} {k : Source} (ime : s.ime = true) (pending : pendingSource s.ie s.ifl = some k) :
    interruptStep s = dispatch k s := by
  rw [interruptStep, ime, pending]
  rfl

/-- Vertical-blank comes before every other source (60_exceptions.md R521). -/
theorem pendingSource_vblank {ie ifl : Byte} (enabled : ie.getLsbD 0 = true) (pending : ifl.getLsbD 0 = true) :
    pendingSource ie ifl = some .vblank := by
  have hit : (ie.getLsbD Source.vblank.bit && ifl.getLsbD Source.vblank.bit) = true := by
    rw [Source.bit, enabled, pending]
    rfl
  exact List.find?_cons_of_pos hit

/-- The timer phase requests, and clears no pending bit (60_exceptions.md R544). -/
theorem timerPhase_keeps_pending {s : State} {j : Nat} (pending : s.ifl.getLsbD j = true) :
    (timerPhase s).ifl.getLsbD j = true := by
  rw [timerPhase, timerStep]
  dsimp only
  split
  · rw [State.request, getLsbD_withBit _ _ (by decide)]
    split
    · rfl
    · exact pending
  · exact pending

/-- A dispatch whose push is not fatal: PC is pushed over the state with the pending bit cleared, and then IME, PC and the
ticks are written (60_exceptions.md R522). -/
theorem dispatch_stores (k : Source) {s : State} (wf : s.mem.wf) (writable : ShortWritable (s.sp - 2)) :
    let cleared : State := { s with ifl := withBit s.ifl k.bit false }
    ∃ m, dispatch k s = .next { m with ime := false, pc := k.vector, ticks := m.ticks + dispatchTicks } ∧
      ShortStored (s.sp - 2) s.pc cleared m ∧ StoreKept { cleared with sp := s.sp - 2 } m := by
  intro cleared
  obtain ⟨m, hm, stored, kept⟩ := push16_stores (v := s.pc) (s := cleared) wf writable
  refine ⟨m, ?_, stored, kept⟩
  rw [dispatch, hm, andThen_next]

theorem fetch_ei {s : State} (h : s.readByte s.pc = 0xFB) : fetch s = .ei := by
  rw [fetch, h]
  rfl

theorem fetch_di {s : State} (h : s.readByte s.pc = 0xF3) : fetch s = .di := by
  rw [fetch, h]
  rfl

/-- The state that the timer and interrupt phases see after EI or DI: PC is past the opcode, IME is written and the cost is
added. -/
def afterImeWrite (op : Byte) (v : Bool) (s : State) : State :=
  { s with pc := s.pc + 1, ime := v, ticks := s.ticks + cost op false }

theorem step_ei {s : State} (hf : s.fatal = none) (running : s.stopped = false) (h : s.readByte s.pc = 0xFB) :
    step s = interruptStep (timerPhase (afterImeWrite 0xFB true s)) := by
  rw [step_running hf running, fetch_ei h]
  rfl

theorem step_di {s : State} (hf : s.fatal = none) (running : s.stopped = false) (h : s.readByte s.pc = 0xF3) :
    step s = interruptStep (timerPhase (afterImeWrite 0xF3 false s)) := by
  rw [step_running hf running, fetch_di h]
  rfl

/-- Settles O57: the timer phase keeps IME, IE and the pending bit, so the interrupt phase dispatches vertical-blank after
EI, and does nothing after DI. -/
theorem eiAndDiActInTheirOwnStep : Obligations.EiAndDiActInTheirOwnStep := by
  intro s wf hf running
  refine ⟨fun ei enabled pending writable => ?_, fun di => ?_⟩
  · let m := timerPhase (afterImeWrite 0xFB true s)
    have source : pendingSource m.ie m.ifl = some .vblank := pendingSource_vblank enabled (timerPhase_keeps_pending pending)
    obtain ⟨t, dispatched, stored, kept⟩ := dispatch_stores .vblank (s := m) wf writable
    have next := ((step_ei hf running ei).trans (interruptStep_pending rfl source)).trans dispatched
    refine ⟨_, next, rfl, rfl, kept.sp, congrArg (· + 12) kept.ticks, fun ly ly' => ?_⟩
    have above : s.sp - 2 + 1 ≠ 0xFF44 := by bv_omega
    calc t.readShort t.sp = t.readShort (s.sp - 2) := by rw [kept.sp]; rfl
      _ = s.pc + 1 := readShort_of_shortStored stored ly above
  · exact ⟨_, (step_di hf running di).trans (interruptStep_masked rfl), rfl, rfl, rfl, rfl⟩

end Sys2Proof.Proofs
end

section
/-! The proofs of the statements on exceptions (60_exceptions.md): which instructions can be fatal, the interrupt phase, and
the display timer. The loop of the timer is followed pass by pass (`timerLoop_induction`): once against the relation of the
rules, and once against the position in the frame, which every tick moves by one. -/

namespace Sys2Proof.Proofs

open Sys2Proof.Machine Sys2Proof.Laws

/-! ### The display position (R541 to R546) -/

/-- Within a mode and a line the position counts the ticks of the accumulator. -/
theorem framePosition_add (m : Mode) (line acc n : Nat) : framePosition m line (acc + n) = framePosition m line acc + n := by
  cases m <;> exact (Nat.add_assoc _ _ _).symm

/-- A line that fits its mode and an accumulator below the threshold stand for a position inside the frame: the last one is
tick 455 of line 152. -/
theorem framePosition_lt_frameTicks {m : Mode} {line acc : Nat} (fits : lineFitsMode m line) (below : acc < threshold m) :
    framePosition m line acc < frameTicks := by
  cases m <;> simp only [lineFitsMode, threshold, framePosition, frameTicks] at * <;> omega

/-! The transitions, mode by mode (R542 to R545); those of horizontal-blank and vertical-blank test the line. -/

theorem transition_oamScan (line acc : Nat) (entered : Bool) :
    transition ⟨.oamScan, line, acc, entered⟩ = ⟨.pixelTransfer, line, acc, entered⟩ := rfl

theorem transition_pixelTransfer (line acc : Nat) (entered : Bool) :
    transition ⟨.pixelTransfer, line, acc, entered⟩ = ⟨.hblank, line, acc, entered⟩ := rfl

theorem transition_nextLine {line : Nat} (visible : line + 1 ≠ 143) (acc : Nat) (entered : Bool) :
    transition ⟨.hblank, line, acc, entered⟩ = ⟨.oamScan, line + 1, acc, entered⟩ := if_neg visible

theorem transition_enterVblank {line : Nat} (last : line + 1 = 143) (acc : Nat) (entered : Bool) :
    transition ⟨.hblank, line, acc, entered⟩ = ⟨.vblank, line + 1, acc, true⟩ := if_pos last

theorem transition_vblankLine {line : Nat} (more : line + 1 ≠ 153) (acc : Nat) (entered : Bool) :
    transition ⟨.vblank, line, acc, entered⟩ = ⟨.vblank, line + 1, acc, entered⟩ := if_neg more

theorem transition_wrap {line : Nat} (last : line + 1 = 153) (acc : Nat) (entered : Bool) :
    transition ⟨.vblank, line, acc, entered⟩ = ⟨.oamScan, 0, acc, entered⟩ := if_pos last

/-- A pass trades the threshold it takes from the accumulator for the same distance in the frame; the wrap from line 152 to
line 0 takes off one whole frame (R545). -/
theorem transition_framePosition {d : Display} (reached : threshold d.mode ≤ d.acc) :
    let d' := transition { d with acc := d.acc - threshold d.mode }
    framePosition d.mode d.line d.acc = framePosition d'.mode d'.line d'.acc ∨
      framePosition d.mode d.line d.acc = framePosition d'.mode d'.line d'.acc + frameTicks := by
  obtain ⟨m, line, acc, entered⟩ := d
  cases m <;> simp only [threshold] at reached ⊢
  case oamScan =>
    simp only [transition_oamScan, framePosition]
    omega
  case pixelTransfer =>
    simp only [transition_pixelTransfer, framePosition]
    omega
  case hblank =>
    by_cases last : line + 1 = 143
    · simp only [transition_enterVblank last, framePosition]
      omega
    · simp only [transition_nextLine last, framePosition]
      omega
  case vblank =>
    by_cases last : line + 1 = 153
    · simp only [transition_wrap last, framePosition, frameTicks]
      omega
    · simp only [transition_vblankLine last, framePosition]
      omega

theorem transition_framePosition_mod {d : Display} (reached : threshold d.mode ≤ d.acc) :
    let d' := transition { d with acc := d.acc - threshold d.mode }
    framePosition d'.mode d'.line d'.acc % frameTicks = framePosition d.mode d.line d.acc % frameTicks := by
  rcases transition_framePosition reached with same | wrapped
  · rw [same]
  · rw [wrapped, Nat.add_mod_right]

/-- The whole loop keeps the position, up to whole frames. -/
theorem timerLoop_framePosition (d : Display) :
    framePosition (timerLoop d.acc d).mode (timerLoop d.acc d).line (timerLoop d.acc d).acc % frameTicks =
      framePosition d.mode d.line d.acc % frameTicks :=
  timerLoop_induction
    (P := fun d d' => framePosition d'.mode d'.line d'.acc % frameTicks = framePosition d.mode d.line d.acc % frameTicks)
    (fun _ _ => rfl) (fun _ _ reached after => after.trans (transition_framePosition_mod reached)) d

/-- What the timer phase hands to the loop: the ticks since the last phase are added to the accumulator (30_encoding.md
R121). -/
def fedDisplay (s : State) : Display where
  mode := s.mode
  line := s.line
  acc := s.acc + (s.ticks - s.timerSeen)
  enteredVblank := false

/-- What the loop leaves of it is the display of the state after the timer phase. -/
theorem timerPhase_display (s : State) :
    let d := timerLoop (fedDisplay s).acc (fedDisplay s)
    (timerPhase s).mode = d.mode ∧ (timerPhase s).line = d.line ∧ (timerPhase s).acc = d.acc := ⟨rfl, rfl, rfl⟩

/-- Settles O59: the loop keeps the position of the fed display up to whole frames, and ends inside the frame. -/
theorem frameAdvancesByTicks : Obligations.FrameAdvancesByTicks := by
  intro s _ fits _ t
  obtain ⟨mode, line, acc⟩ := timerPhase_display s
  have inside : framePosition t.mode t.line t.acc < frameTicks := by
    rw [mode, line, acc]
    exact framePosition_lt_frameTicks (timerLoop_lineFitsMode (d := fedDisplay s) fits) (timerLoop_acc _)
  refine ⟨inside, ?_⟩
  calc framePosition t.mode t.line t.acc = framePosition t.mode t.line t.acc % frameTicks := (Nat.mod_eq_of_lt inside).symm
    _ = framePosition s.mode s.line (s.acc + (s.ticks - s.timerSeen)) % frameTicks := timerLoop_framePosition (fedDisplay s)
    _ = (framePosition s.mode s.line s.acc + (s.ticks - s.timerSeen)) % frameTicks := by rw [framePosition_add]

/-- A state with the same display and the same ticks seen has the same position. -/
theorem displayFollowsTicks_congr {s t : State} (mode : t.mode = s.mode) (line : t.line = s.line) (acc : t.acc = s.acc)
    (seen : t.timerSeen = s.timerSeen) (h : s.displayFollowsTicks) : t.displayFollowsTicks := by
  rw [State.displayFollowsTicks, mode, line, acc, seen]
  exact h

/-- The invariant and the position are kept by every change of an instruction: none reaches the timer's fields. -/
theorem closed_inv_and_displayFollowsTicks : Closed fun s => s.Inv ∧ s.displayFollowsTicks where
  reg s r v h := ⟨closed_inv.reg s r v h.1, by cases r <;> exact h.2⟩
  flag s k v h := ⟨closed_inv.flag s k v h.1, h.2⟩
  sp s v h := ⟨closed_inv.sp s v h.1, h.2⟩
  pc s v h := ⟨closed_inv.pc s v h.1, h.2⟩
  ime s v h := ⟨closed_inv.ime s v h.1, h.2⟩
  ticks s n h := ⟨closed_inv.ticks s n h.1, h.2⟩
  stopped s h := ⟨closed_inv.stopped s h.1, h.2⟩
  unsupported s e h := ⟨closed_inv.unsupported s e h.1, h.2⟩
  write s t a v h hw := by
    have kept := writeByte_kept hw
    exact ⟨closed_inv.write s t a v h.1 hw,
      displayFollowsTicks_congr kept.mode kept.line kept.acc kept.timerSeen h.2⟩

/-- The timer phase moves the display by the ticks that it then has seen. -/
theorem timerPhase_displayFollowsTicks {s : State} (inv : s.Inv) (h : s.displayFollowsTicks) :
    (timerPhase s).displayFollowsTicks := by
  obtain ⟨-, advanced⟩ := frameAdvancesByTicks s inv.seen inv.line inv.acc
  have seen := inv.seen
  calc framePosition (timerPhase s).mode (timerPhase s).line (timerPhase s).acc
      = ((252 + s.timerSeen) % frameTicks + (s.ticks - s.timerSeen)) % frameTicks := by rw [advanced, h]
    _ = (252 + s.timerSeen + (s.ticks - s.timerSeen)) % frameTicks := Nat.mod_add_mod _ _ _
    _ = (252 + s.ticks) % frameTicks := by congr 1; omega

/-- Settles O60: only the timer phase moves the display, and the invariant, which it needs, is kept beside the position. -/
theorem everyStepKeepsDisplayPosition : Obligations.EveryStepKeepsDisplayPosition := by
  refine ⟨⟨resetMeetsInvariant, rfl⟩, fun s t inv follows next => ?_⟩
  have kept : OutAll (fun s => s.Inv ∧ s.displayFollowsTicks) (step s) :=
    step_all closed_inv_and_displayFollowsTicks
      (fun _ h => ⟨timerPhase_inv h.1, timerPhase_displayFollowsTicks h.1 h.2⟩)
      (fun _ k h => ⟨clearPending_inv k h.1, h.2⟩) inv.running ⟨inv, follows⟩
  exact outAll_next kept next

/-! ### The loop of the rules (R540 to R545) -/

/-- IF after the loop: the request of R544 is made if vertical-blank was entered and is enabled. -/
def requestedIf (ie ifl : Byte) (entered : Bool) : Byte := if ie.getLsbD 0 && entered then ifl ||| 0x01#8 else ifl

theorem requestedIf_false (ie ifl : Byte) : requestedIf ie ifl false = ifl := by
  rw [requestedIf, Bool.and_false]
  rfl

/-- A second request changes nothing, so one test after the loop serves (log entry 10). -/
theorem requestedIf_again (ie ifl : Byte) (entered : Bool) :
    (if ie.getLsbD 0 then requestedIf ie ifl entered ||| 0x01#8 else requestedIf ie ifl entered) =
      requestedIf ie ifl true := by
  unfold requestedIf
  cases ie.getLsbD 0
  case false => rfl
  case true =>
    cases entered
    case false => rfl
    case true => exact (BitVec.or_assoc _ _ _).trans (by rw [BitVec.or_self]; rfl)

/-- Below the threshold the rules' loop exits where it is. -/
theorem timerRuns_exit_iff {ie : Byte} {m m' : Mode} {line acc line' acc' : Nat} {ifl ifl' : Byte} (below : acc < threshold m) :
    TimerRuns ie m line acc ifl m' line' acc' ifl' ↔ m' = m ∧ line' = line ∧ acc' = acc ∧ ifl' = ifl := by
  constructor
  · intro runs
    cases runs with
    | exit => exact ⟨rfl, rfl, rfl, rfl⟩
    | oamScan reached | pixelTransfer reached | nextLine reached | enterVblank reached | vblankLine reached
    | wrap reached => exact absurd below (Nat.not_lt.2 reached)
  · rintro ⟨rfl, rfl, rfl, rfl⟩
    exact .exit below

/-- At the threshold the rules' loop takes the pass of the model and goes on from there. -/
theorem timerRuns_pass_iff {ie ifl : Byte} {d : Display} {m' : Mode} {line' acc' : Nat} {ifl' : Byte}
    (reached : threshold d.mode ≤ d.acc) :
    let d₁ := transition { d with acc := d.acc - threshold d.mode }
    TimerRuns ie d.mode d.line d.acc (requestedIf ie ifl d.enteredVblank) m' line' acc' ifl' ↔
      TimerRuns ie d₁.mode d₁.line d₁.acc (requestedIf ie ifl d₁.enteredVblank) m' line' acc' ifl' := by
  obtain ⟨m, line, acc, entered⟩ := d
  have notBelow : ¬ acc < threshold m := Nat.not_lt.2 reached
  cases m
  case oamScan =>
    refine ⟨fun runs => ?_, .oamScan reached⟩
    cases runs with
    | exit below => exact absurd below notBelow
    | oamScan _ rest => exact rest
  case pixelTransfer =>
    refine ⟨fun runs => ?_, .pixelTransfer reached⟩
    cases runs with
    | exit below => exact absurd below notBelow
    | pixelTransfer _ rest => exact rest
  case hblank =>
    by_cases last : line + 1 = 143
    · simp only [transition_enterVblank last]
      rw [← requestedIf_again ie ifl entered]
      refine ⟨fun runs => ?_, .enterVblank reached last⟩
      cases runs with
      | exit below => exact absurd below notBelow
      | nextLine _ visible => exact absurd last visible
      | enterVblank _ _ rest => exact rest
    · simp only [transition_nextLine last]
      refine ⟨fun runs => ?_, .nextLine reached last⟩
      cases runs with
      | exit below => exact absurd below notBelow
      | nextLine _ _ rest => exact rest
      | enterVblank _ last' => exact absurd last' last
  case vblank =>
    by_cases last : line + 1 = 153
    · simp only [transition_wrap last]
      refine ⟨fun runs => ?_, .wrap reached last⟩
      cases runs with
      | exit below => exact absurd below notBelow
      | vblankLine _ more => exact absurd last more
      | wrap _ _ rest => exact rest
    · simp only [transition_vblankLine last]
      refine ⟨fun runs => ?_, .vblankLine reached last⟩
      cases runs with
      | exit below => exact absurd below notBelow
      | vblankLine _ _ rest => exact rest
      | wrap _ last' => exact absurd last' last

/-- The outcome of the model's loop is the one outcome of the rules' loop. -/
theorem timerRuns_iff_timerLoop {ie ifl : Byte} {m' : Mode} {line' acc' : Nat} {ifl' : Byte} (d : Display) :
    TimerRuns ie d.mode d.line d.acc (requestedIf ie ifl d.enteredVblank) m' line' acc' ifl' ↔
      m' = (timerLoop d.acc d).mode ∧ line' = (timerLoop d.acc d).line ∧ acc' = (timerLoop d.acc d).acc ∧
        ifl' = requestedIf ie ifl (timerLoop d.acc d).enteredVblank :=
  timerLoop_induction
    (P := fun d d' => TimerRuns ie d.mode d.line d.acc (requestedIf ie ifl d.enteredVblank) m' line' acc' ifl' ↔
      m' = d'.mode ∧ line' = d'.line ∧ acc' = d'.acc ∧ ifl' = requestedIf ie ifl d'.enteredVblank)
    (fun _ => timerRuns_exit_iff) (fun _ _ reached after => (timerRuns_pass_iff reached).trans after) d

/-- IF after the timer phase. -/
theorem timerPhase_ifl (s : State) :
    (timerPhase s).ifl = requestedIf s.ie s.ifl (timerLoop (fedDisplay s).acc (fedDisplay s)).enteredVblank := rfl

/-- From the display and IF before the timer phase, the rules' loop has the outcome of the phase and no other. -/
theorem timerRuns_iff_timerPhase (s : State) (m : Mode) (line acc : Nat) (ifl : Byte) :
    TimerRuns s.ie s.mode s.line (s.acc + (s.ticks - s.timerSeen)) s.ifl m line acc ifl ↔
      m = (timerPhase s).mode ∧ line = (timerPhase s).line ∧ acc = (timerPhase s).acc ∧ ifl = (timerPhase s).ifl := by
  have notEntered : requestedIf s.ie s.ifl (fedDisplay s).enteredVblank = s.ifl := requestedIf_false s.ie s.ifl
  have runs := timerRuns_iff_timerLoop (ie := s.ie) (ifl := s.ifl) (m' := m) (line' := line) (acc' := acc) (ifl' := ifl)
    (fedDisplay s)
  rw [notEntered, ← timerPhase_ifl] at runs
  exact runs

/-- Settles O58: both parts of the comparison with the rules are `timerRuns_iff_timerPhase`. -/
theorem timerPhaseFollowsRules : Obligations.TimerPhaseFollowsRules := by
  intro s _ t acc
  exact ⟨(timerRuns_iff_timerPhase s _ _ _ _).2 ⟨rfl, rfl, rfl, rfl⟩,
    fun m line acc' ifl => (timerRuns_iff_timerPhase s m line acc' ifl).1, timerLoop_acc (fedDisplay s), timerPhase_frame s⟩

/-! ### The interrupt phase (R510 to R522) -/

/-- A push that is fatal: SP has moved by then, and at SP = 1 the low byte has gone to IE (20_memory.md R91, R93). -/
theorem push16_faults {v : Word} {s : State} (wf : s.mem.wf) :
    ((s.sp - 2).toNat ≤ 0x7FFF → push16 v s = .fault (.fatal (.romWrite (s.sp - 2) (loByte v))
      { s with sp := s.sp - 2, fatal := some (.romWrite (s.sp - 2) (loByte v)) })) ∧
    (s.sp = 1 → push16 v s = .fault (.fatal (.romWrite 0 (hiByte v))
      { s with sp := 0xFFFF, ie := loByte v, fatal := some (.romWrite 0 (hiByte v)) })) := by
  obtain ⟨-, rom, wrap, -⟩ := wordWriteRoundTrip (s := { s with sp := s.sp - 2 }) (s.sp - 2) v wf
  refine ⟨rom, fun one => ?_⟩
  have top : s.sp - 2 = 0xFFFF := by rw [one]; rfl
  have fault := wrap top
  rw [top] at fault
  rw [push16, top]
  exact fault

/-- What faults the push faults the dispatch. -/
theorem dispatch_fault {k : Source} {s : State} {r : Fault}
    (h : push16 s.pc { s with ifl := withBit s.ifl k.bit false } = .fault r) : dispatch k s = .fault r := by
  rw [dispatch, h]
  rfl

theorem exists_source_of_bit : ∀ k < 5, ∃ j : Source, j.bit = k
  | 0, _ => ⟨.vblank, rfl⟩
  | 1, _ => ⟨.displayStatus, rfl⟩
  | 2, _ => ⟨.timer, rfl⟩
  | 3, _ => ⟨.serial, rfl⟩
  | 4, _ => ⟨.joypad, rfl⟩

/-- The mask of the interrupt phase keeps the bits of the sources (R510). -/
theorem getLsbD_pending (ie ifl : Byte) (j : Source) :
    (ie &&& ifl &&& 0x1F#8).getLsbD j.bit = true ↔ ie.getLsbD j.bit = true ∧ ifl.getLsbD j.bit = true := by
  have source : (0x1F#8).getLsbD j.bit = true := by cases j <;> rfl
  rw [BitVec.getLsbD_and, BitVec.getLsbD_and, source, Bool.and_true, Bool.and_eq_true]

/-- The source that is taken is that of the lowest bit set in the mask (R521). -/
theorem pendingSource_of_lowest {ie ifl : Byte} {k : Nat} (hk : k < 5) (pending : (ie &&& ifl &&& 0x1F#8).getLsbD k = true)
    (lowest : ∀ j < k, (ie &&& ifl &&& 0x1F#8).getLsbD j = false) : ∃ j, pendingSource ie ifl = some j ∧ j.bit = k := by
  obtain ⟨q, rfl⟩ := exists_source_of_bit k hk
  cases found : pendingSource ie ifl with
  | none => exact absurd ((getLsbD_pending ie ifl q).1 pending) (pendingSource_eq_none.1 found q)
  | some j =>
    obtain ⟨hit, first⟩ := pendingSource_eq_some found
    have notAbove : ¬ q.bit < j.bit := fun above => first q above ((getLsbD_pending ie ifl q).1 pending)
    have notBelow : ¬ j.bit < q.bit := fun below =>
      absurd ((getLsbD_pending ie ifl j).2 hit) (ne_true_of_eq_false (lowest _ below))
    exact ⟨j, rfl, by omega⟩

/-- Settles O56: the lowest bit names the source that is dispatched, and the push of PC decides between the fault and the
next state. -/
theorem interruptPhase : Obligations.InterruptPhase := by
  intro s wf m
  refine ⟨?quiet, fun k hk ime pending lowest => ?taken⟩
  case quiet =>
    rintro (masked | noneSet)
    · exact interruptStep_masked masked
    · rw [interruptStep, (pendingSource_eq_none_iff s.ie s.ifl).2 noneSet, ite_self]
  case taken =>
    obtain ⟨j, source, rfl⟩ := pendingSource_of_lowest hk pending lowest
    intro cleared
    have taken : interruptStep s = dispatch j s := interruptStep_pending ime source
    obtain ⟨rom, one⟩ := push16_faults (v := s.pc) (s := cleared) wf
    refine ⟨fun writable => ?_, fun low => taken.trans (dispatch_fault (rom low)),
      fun sp => taken.trans (dispatch_fault (one sp))⟩
    obtain ⟨n, dispatched, stored, kept⟩ := dispatch_stores j wf writable
    have frame : StoreFrame { s with ime := false }
        { n with ime := false, pc := j.vector, ticks := n.ticks + dispatchTicks } :=
      storeFrame_of_fields rfl kept.mode kept.line kept.acc kept.timerSeen kept.stopped kept.fatal kept.unsupportedSeen
        kept.log
    exact ⟨_, taken.trans dispatched, stored, kept.reg, kept.f, kept.sp, rfl, rfl, congrArg (· + 12) kept.ticks, frame⟩

/-! ### The instructions that can be fatal (R501; 20_memory.md R86) -/

/-- The instructions that write to an address that may be in ROM; a CALL cc only where its condition holds. -/
def MayWriteRom (i : Instr) (s : State) : Prop :=
  (∃ r, i = .ldToHL r) ∨ (∃ n, i = .ld_atHL_d8 n) ∨ i = .ld_atBC_A ∨ i = .ld_atDE_A ∨ i = .ld_atHLinc_A ∨
    i = .ld_atHLdec_A ∨ (∃ a, i = .ld_atA16_A a) ∨ (∃ a, i = .ld_atA16_SP a) ∨ i = .inc_atHL ∨ i = .dec_atHL ∨
    (∃ p, i = .push p) ∨ (∃ a, i = .call_a16 a) ∨ (∃ cc a, i = .callIf cc a ∧ s.cond cc = true) ∨ ∃ y, i = .rst y

/-- A store to page 0xFF completes (30_encoding.md R136). -/
theorem store_highPage_next (op n v : Byte) (s : State) : ∃ t, store op (highPage n) v s = .next t := by
  obtain ⟨m, hm⟩ := (writeByte_next_iff (highPage n) v s).2 (by rw [highPage_eq_concat]; exact highPage_above_rom n)
  exact ⟨_, by rw [store, hm, andThen_next]; rfl⟩

/-- Every instruction but those completes. -/
theorem exec_next_or_mayWriteRom (i : Instr) (s : State) : (∃ t, exec i s = .next t) ∨ MayWriteRom i s := by
  induction i using instr_by_family with
  | ldToHL | ldAtHL | ldAtBCA | ldAtDEA | ldAtHLincA | ldAtHLdecA | ldAtA16A | ldAtA16SP | push | incAtHL | decAtHL | call
  | rst => exact .inr (by simp [MayWriteRom])
  | callIf cc a =>
    cases holds : s.cond cc with
    | true =>
      have named : ∃ cc' a', Instr.callIf cc a = .callIf cc' a' ∧ s.cond cc' = true := ⟨cc, a, rfl, holds⟩
      exact .inr (by simp only [MayWriteRom, named, true_or, or_true])
    | false =>
      rw [exec_callIf, callIf, holds]
      exact .inl ⟨_, rfl⟩
  | ldhAtA8A n => exact .inl (store_highPage_next _ n _ (s.consume 1))
  | ldAtCA => exact .inl (store_highPage_next _ s.c _ s)
  | ldReg dst src => rw [exec_ldReg]; exact .inl ⟨_, rfl⟩
  | ldImm r n => rw [exec_ldImm]; exact .inl ⟨_, rfl⟩
  | ldFromHL r => rw [exec_ldFromHL]; exact .inl ⟨_, rfl⟩
  | ldPair p v => rw [exec_ldPair]; exact .inl ⟨_, rfl⟩
  | pop p => rw [exec_pop]; exact .inl ⟨_, rfl⟩
  | alu k src => rw [exec_alu]; exact .inl ⟨_, rfl⟩
  | incReg r => rw [exec_incReg]; exact .inl ⟨_, rfl⟩
  | decReg r => rw [exec_decReg]; exact .inl ⟨_, rfl⟩
  | incPair p => rw [exec_incPair]; exact .inl ⟨_, rfl⟩
  | decPair p => rw [exec_decPair]; exact .inl ⟨_, rfl⟩
  | addHL p => rw [exec_addHL]; exact .inl ⟨_, rfl⟩
  | jrIf cc e => rw [exec_jrIf, jumpRelativeIf]; split <;> exact .inl ⟨_, rfl⟩
  | jpIf cc a => rw [exec_jpIf, jumpIf]; split <;> exact .inl ⟨_, rfl⟩
  | retIf cc => rw [exec_retIf, returnIf]; split <;> exact .inl ⟨_, rfl⟩
  | unsupported p h => rw [exec_unsupported h]; exact .inl ⟨_, rfl⟩
  | _ => exact .inl ⟨_, rfl⟩

/-- What holds of every state is kept by every change. -/
theorem closed_true : Closed fun _ => True := by
  constructor <;> intros <;> trivial

/-- Settles O10: every instruction goes on or is fatal by a write to ROM (`exec_all`), and all but the named ones go on. -/
theorem onlyStoresAreFatal : Obligations.OnlyStoresAreFatal := by
  intro i s
  rcases exec_next_or_mayWriteRom i s with next | named
  · exact .inl next
  · rcases outAll_cases (exec_all closed_true (s := s) trivial i) with ⟨t, ht, -⟩ | ⟨a, v, u, fault, rom, -⟩
    · exact .inl ⟨t, ht⟩
    · exact .inr ⟨⟨a, v, u, fault, rom⟩, named⟩

end Sys2Proof.Proofs
end

section
/-! The proofs of the statements on construction and the first step (70_reset_and_hazards.md). -/

namespace Sys2Proof.Proofs

open Sys2Proof.Machine Sys2Proof.Laws

/-! ### Construction (R600, R602, R612) -/

/-- The cells of an image from `base` on read back as the image, and as the unlisted byte past its end. -/
theorem read_romCells (img : List Byte) (base i : Nat) : (romCells img base).read (base + i) = img.getD i Memory.unlisted := by
  induction img generalizing base i with
  | nil => rfl
  | cons v img ih =>
    cases i with
    | zero =>
      rw [romCells, List.getD_cons_zero]
      split
      · next blank =>
        rw [blank]
        exact read_eq_unlisted_of_keysAbove fun _ hx => (mem_romCells hx).1
      · exact if_pos rfl
    | succ i =>
      have next : (romCells img (base + 1)).read (base + (i + 1)) = img.getD i Memory.unlisted := by
        rw [← ih (base + 1) i]
        congr 1
        omega
      rw [romCells, List.getD_cons_succ, ← next]
      split
      · rfl
      · exact if_neg (by simp)

/-- The session that construction gives. -/
theorem construct_eq_some {img : List Byte} (h : img.length = 32768) :
    State.construct img = some { State.reset with mem := romCells img 0 } :=
  if_pos (beq_iff_eq.2 h)

theorem construct_eq_none {img : List Byte} (h : img.length ≠ 32768) : State.construct img = none :=
  if_neg fun wf => h (beq_iff_eq.1 wf)

/-- A session with the registers and latches of reset meets the invariant for every image. -/
theorem inv_of_image {img : List Byte} (h : img.length = 32768) : State.Inv { State.reset with mem := romCells img 0 } :=
  { resetMeetsInvariant with mem := romCells_wf img 0 (by omega) }

/-- The arrays other than ROM lie past the image's addresses. -/
theorem rom_size_le_base {r : Region} (h : r ≠ .rom) : 32768 ≤ r.base := by
  cases r
  case rom => exact absurd rfl h
  all_goals decide

/-- Settles O13: the image is read back from its cells, and no other array has a cell. -/
theorem constructionEstablishesReset : Obligations.ConstructionEstablishesReset := by
  intro img
  refine ⟨construct_eq_none, fun length => ?_⟩
  let s : State := { State.reset with mem := romCells img 0 }
  have cell (r : Region) (i : Nat) : s.arrayByte r i = img.getD (r.base + i) 0x00 := by
    have read := read_romCells img 0 (r.base + i)
    rwa [Nat.zero_add] at read
  have rom (i : Nat) (h : i < img.length) : s.arrayByte .rom i = img[i] := by
    rw [cell, Region.base, Nat.zero_add, List.getD_eq_getElem _ _ h]
  have others (r : Region) (i : Nat) (h : r ≠ .rom) (_ : i < r.size) : s.arrayByte r i = 0x00 := by
    have past := rom_size_le_base h
    rw [cell, List.getD_eq_default _ _ (by omega)]
  exact ⟨s, construct_eq_some length, rom, others, rfl, rfl, rfl, rfl, rfl, rfl, rfl, rfl, rfl, rfl, rfl, rfl, rfl, rfl, rfl,
    rfl, rfl, rfl, rfl, rfl, rfl, rfl, rfl, rfl, rfl, rfl, inv_of_image length⟩

/-- A zeroed image has no cells. -/
theorem romCells_zeros (n base : Nat) : romCells (List.replicate n 0x00) base = [] := by
  induction n generalizing base with
  | zero => rfl
  | succ n ih =>
    rw [List.replicate_succ, romCells]
    exact (if_pos rfl).trans (ih (base + 1))

/-- Settles O14: the image is the only thing that construction takes from outside. -/
theorem zeroImageConstructsReset : Obligations.ZeroImageConstructsReset := by
  have constructed := construct_eq_some (img := List.replicate 32768 0x00) List.length_replicate
  rw [romCells_zeros] at constructed
  exact constructed

/-! ### The first step (R603) -/

/-- Settles O15: the byte at 0x0100 is NOP, its 2 ticks stay below the threshold of horizontal-blank, and no source is
enabled. -/
theorem firstStepOfZeroImage : Obligations.FirstStepOfZeroImage := by
  obtain ⟨⟨-, nop⟩, -⟩ := systemInstructions 0x00 { State.reset with pc := 0x0101 }
  have executed : exec (fetch State.reset) { State.reset with pc := State.reset.pc + 1 } =
      .next { State.reset with pc := 0x0101, ticks := 2 } := nop
  have timer : timerPhase { State.reset with pc := 0x0101, ticks := 2 } =
      { State.reset with pc := 0x0101, ticks := 2, timerSeen := 2, acc := 2 } := rfl
  rw [Obligations.FirstStepOfZeroImage, step_running rfl rfl, executed, andThen_next, timer]
  rfl

end Sys2Proof.Proofs
end
